-- ==== Sys2Proof/Word.lean ====
section
/-! DEFINITION. The two word types of the machine (R10): bytes and 16-bit words. Their arithmetic is that of `BitVec`, which
wraps modulo 2^8 and 2^16 as R12 asks. -/

namespace Sys2Proof

/-- A byte: a general register, a memory cell, an I/O slot (R10). -/
abbrev Byte := BitVec 8

/-- A 16-bit value: SP, PC, a register pair, an address (R10). -/
abbrev Word := BitVec 16

end Sys2Proof
end

