-- ==== Sys2Proof/Config.lean ====
section
/-! DEFINITION. The three configuration parameters of R9. They are plain data, held in State and never written by a step
(notes/assumptions/1.md), so a statement about every state is a statement about every configuration. The spec leaves no
value open that a run can reach, so this file holds no free value. -/

namespace Sys2Proof

/-- `CB_IMPL` (R9, D1): whether the CB page is implemented. -/
inductive CbImpl where
  | unimplemented   -- every CB opcode is a two-byte diagnostic no-op (R368)
  | full            -- the CB table of 45_cb.md
  deriving DecidableEq, Repr

/-- `IRQ_IMPL` (R9, D2): whether interrupts are serviced. -/
inductive IrqImpl where
  | none   -- IF bits are set and never serviced; HALT, DI, EI do nothing; RETI is RET
  | full   -- IME, EI delay, priority, vectoring, HALT wait
  deriving DecidableEq, Repr

/-- `CYCLE_SOURCE` (R9, D3): who feeds cycle counts to the peripherals. -/
inductive CycleSource where
  | host    -- only the host steps the peripherals
  | table   -- the console feeds each step's count (R540) to them (R491)
  deriving DecidableEq, Repr

/-- The configuration parameters of R9. The three are independent. -/
structure Config where
  cbImpl      : CbImpl
  irqImpl     : IrqImpl
  cycleSource : CycleSource
  deriving DecidableEq, Repr

/-- The baseline configuration of R9: "this first-iteration spec". -/
def Config.baseline : Config := ⟨.unimplemented, .none, .host⟩

/-- The full configuration of R9: what "a complete implementation" must have. -/
def Config.complete : Config := ⟨.full, .full, .table⟩

end Sys2Proof
end

