-- ==== Sys2Proof/Machine/Memory.lean ====
section
/-! DEFINITION. A byte array (R40) as plain data: the list of its bytes that differ from what an unlisted index reads as, by
rising index. Every array of the machine is held so, each in its own index space, so equal arrays are equal lists. -/

namespace Sys2Proof.Machine

/-- A byte array: (index, byte) pairs in the canonical form `Memory.wf`. -/
abbrev Memory := List Host.Cell

/-- What an unlisted index reads as: 0x00, the reset contents of every array the MMU clears (R522). For the cartridge image it
is a convention of the representation only: a byte of the image that is 0x00 is not listed. -/
def Memory.unlisted : Byte := 0x00

/-- The byte at an index. -/
def Memory.byteAt : Memory → Nat → Byte
  | [], _ => Memory.unlisted
  | (k, v) :: rest, i => if k = i then v else Memory.byteAt rest i

/-- Put a byte in front of a list, unless it is what an unlisted index reads as. -/
def Memory.consUnlessDefault (i : Nat) (v : Byte) (m : Memory) : Memory :=
  if v = Memory.unlisted then m else (i, v) :: m

/-- The array with one byte replaced, canonical form kept. -/
def Memory.store : Memory → Nat → Byte → Memory
  | [], i, v => Memory.consUnlessDefault i v []
  | (k, w) :: rest, i, v =>
    if i < k then Memory.consUnlessDefault i v ((k, w) :: rest)
    else if i = k then Memory.consUnlessDefault i v rest
    else (k, w) :: Memory.store rest i v

/-- The array whose bytes from index `i` on are those of a list. -/
def Memory.ofBytesAt : Nat → List Byte → Memory
  | _, [] => []
  | i, v :: rest => Memory.consUnlessDefault i v (Memory.ofBytesAt (i + 1) rest)

/-- The canonical form of an array of `size` bytes: indices strictly rising and inside the array, no byte listed that an
unlisted index would read. -/
abbrev Memory.wf (size : Nat) (m : Memory) : Prop :=
  m.Pairwise (fun x y => x.1 < y.1) ∧ ∀ cell ∈ m, cell.2 ≠ Memory.unlisted ∧ cell.1 < size

end Sys2Proof.Machine
end

