-- ==== Sys2Proof/Machine/State.lean ====
section
/-! DEFINITION. The state of the machine: everything 10_state.md gives it (R30 to R48), the configuration parameters of R9, and
how far the console has been booted (R528, R530). Plain data. The grouping is the console's own: it "owns the five
subsystems" (R490). -/

namespace Sys2Proof.Machine

/-- The CPU register file (R30) and the interrupt control state (R39). `ime`, `imeScheduled` and `halted` exist under
`IRQ_IMPL = FULL`; under `NONE` nothing reads them and nothing changes them. -/
structure Cpu where
  a : Byte
  f : Byte                -- Z N H C in bits 7..4, low nibble 0 (R31)
  b : Byte
  c : Byte
  d : Byte
  e : Byte
  h : Byte
  l : Byte
  sp : Word
  pc : Word
  ime : Bool
  imeScheduled : Bool
  halted : Bool
  deriving DecidableEq, Repr

/-- The cartridge: the image (R40) and the header-derived values (R43), fixed by `load_rom` (R120). -/
structure Cart where
  rom : Memory            -- the bytes of the image
  romSize : Nat           -- |rom|
  cartType : Byte
  numRomBanks : Nat
  numRamBanks : Nat
  deriving DecidableEq, Repr

/-- The MMU's arrays (R40) and bank selectors (R41, R42). `wram` holds its eight 4 KiB banks end to end and `vram` its two
8 KiB banks, bank 0 first. -/
structure Mmu where
  eram : Memory
  wram : Memory
  vram : Memory
  oam : Memory
  io : Memory             -- slots 0xFF00 to 0xFF7F, by slot number (R49)
  hram : Memory
  ie : Byte               -- 0xFFFF (R64)
  romBankLow : BitVec 5
  romBankHigh : BitVec 2
  bankingMode : BitVec 1
  ramEnabled : Bool
  vramBank : BitVec 1
  wramBank : BitVec 3
  deriving DecidableEq, Repr

/-- The four PPU modes (R44, R463), by their STAT number. -/
inductive PpuMode where
  | hblank     -- 0
  | vblank     -- 1
  | oamSearch  -- 2
  | transfer   -- 3
  deriving DecidableEq, Repr

/-- The PPU state (R44). -/
structure Ppu where
  dot : Nat
  ly : Nat
  mode : PpuMode
  vblankLatched : Bool
  deriving DecidableEq, Repr

/-- The timer's accumulators (R45), unbounded. -/
structure Timer where
  divAcc : Nat
  timaAcc : Nat
  deriving DecidableEq, Repr

/-- The kinds of diagnostic record (R372). -/
inductive DiagKind where
  | unknownOpcode
  | cbUnimplemented
  | writeUnusable
  | readPastRom
  deriving DecidableEq, Repr

/-- One diagnostic record `(kind, addr, byte)` (R48, R372). -/
structure Diag where
  kind : DiagKind
  addr : Word
  byte : Byte
  deriving DecidableEq, Repr

/-- How far the host has booted the console (R530): `run` has a meaning only in `runnable` (R121, R528). -/
inductive BootStage where
  | noCartridge   -- no successful load_rom yet
  | loaded        -- load_rom succeeded, no console reset since
  | runnable      -- load_rom, then reset
  deriving DecidableEq, Repr

/-- The machine. -/
structure State where
  config : Config
  cpu : Cpu
  cart : Cart
  mmu : Mmu
  ppu : Ppu
  timer : Timer
  pressedMask : Byte      -- the joypad (R46)
  diag : List Diag        -- the diagnostic output, oldest record first (R48)
  stage : BootStage
  deriving DecidableEq, Repr

/-- Why the machine stops with a fault. The hardware has no fault (R430), so no instruction raises one. -/
inductive Fault where
  /-- Raised by the step if the bytes it fetched are no instruction. Never: the opcode maps are total (R161) and the step
  fetches every operand byte the map asks for. Safe. -/
  | undecodedBytes
  deriving DecidableEq, Repr

/-- Why the model gives no meaning. -/
inductive Refusal where
  /-- Raised by an arm of `exec` whose instruction has no meaning yet; no arm is such. Safe. -/
  | notModelled (mnemonic : String)
  /-- Raised by the step, and by the host actions that need a booted console, before a successful `load_rom` followed by
  `reset` (R528: "A model refuses `run` before a successful `load_rom` followed by `reset`"). Safe. -/
  | notRunnable
  deriving DecidableEq, Repr

/-- The CPU after reset (R521). -/
def Cpu.reset : Cpu :=
  { a := 0x00, f := 0x00, b := 0x00, c := 0x00, d := 0x00, e := 0x00, h := 0x00, l := 0x00
    sp := 0xFFFE, pc := 0x0100, ime := false, imeScheduled := false, halted := false }

/-- No cartridge: an empty image, with the header values an image too short for a header has (R120; notes/assumptions/3.md). -/
def Cart.absent : Cart :=
  { rom := [], romSize := 0, cartType := 0x00, numRomBanks := 1, numRamBanks := 0 }

/-- The MMU after its own reset (R522). -/
def Mmu.reset : Mmu :=
  { eram := [], wram := [], vram := [], oam := [], io := [], hram := [], ie := 0x00
    romBankLow := 1, romBankHigh := 0, bankingMode := 0, ramEnabled := false, vramBank := 0, wramBank := 1 }

/-- The MMU after the console reset: the joypad's reset, which runs last, writes 0xFF to slot 0x00 (R520, R526). -/
def Mmu.consoleReset : Mmu :=
  { Mmu.reset with io := [(0x00, 0xFF)] }

/-- The PPU after reset (R523). -/
def Ppu.reset : Ppu :=
  { dot := 0, ly := 0, mode := .hblank, vblankLatched := false }

/-- The timer after reset (R524). -/
def Timer.reset : Timer :=
  { divAcc := 0, timaAcc := 0 }

/-- The machine right after the console reset (R520, R67), with no cartridge loaded: a program is loaded from outside
(notes/assumptions/3.md, notes/assumptions/4.md). The configuration is R9's full one (notes/assumptions/1.md). -/
def State.reset : State :=
  { config := Config.complete, cpu := Cpu.reset, cart := Cart.absent, mmu := Mmu.consoleReset
    ppu := Ppu.reset, timer := Timer.reset, pressedMask := 0x00, diag := [], stage := .noCartridge }

end Sys2Proof.Machine
end

