-- ==== Sys2Proof/Machine/Access.lean ====
section
/-! DEFINITION. The smallest named operations on the state: the diagnostic output (R372), the raw I/O slots of the privileged
path (R114), and the setters of PC and SP. -/

namespace Sys2Proof.Machine

/-- What the meaning of an instruction answers. -/
abbrev Result := Host.Outcome State Fault Refusal

/-- Append records to the diagnostic output and change nothing else (R48, R372). -/
def emit (ds : List Diag) (s : State) : State :=
  { s with diag := s.diag ++ ds }

/-- Slot numbers of the named I/O registers (R49). -/
def slotP1 : Nat := 0x00
@[inherit_doc slotP1] def slotDiv : Nat := 0x04
@[inherit_doc slotP1] def slotTima : Nat := 0x05
@[inherit_doc slotP1] def slotTma : Nat := 0x06
@[inherit_doc slotP1] def slotTac : Nat := 0x07
@[inherit_doc slotP1] def slotIf : Nat := 0x0F
@[inherit_doc slotP1] def slotLcdc : Nat := 0x40
@[inherit_doc slotP1] def slotStat : Nat := 0x41
@[inherit_doc slotP1] def slotLy : Nat := 0x44
@[inherit_doc slotP1] def slotLyc : Nat := 0x45
@[inherit_doc slotP1] def slotDma : Nat := 0x46
@[inherit_doc slotP1] def slotVbk : Nat := 0x4F
@[inherit_doc slotP1] def slotSvbk : Nat := 0x70

/-- A raw read of an I/O slot (R114). -/
def slot (s : State) (k : Nat) : Byte :=
  s.mmu.io.byteAt k

/-- A raw write of an I/O slot (R114). -/
def setSlot (k : Nat) (v : Byte) (s : State) : State :=
  { s with mmu := { s.mmu with io := s.mmu.io.store k v } }

/-- `post_interrupt(bit)`: set one IF bit through the privileged path (R13, R114). -/
def postInterrupt (bit : Nat) (s : State) : State :=
  setSlot slotIf (slot s slotIf ||| (1#8 <<< bit)) s

/-- Write PC. -/
def setPc (v : Word) (s : State) : State :=
  { s with cpu := { s.cpu with pc := v } }

/-- Write SP. -/
def setSp (v : Word) (s : State) : State :=
  { s with cpu := { s.cpu with sp := v } }

end Sys2Proof.Machine
end

