-- ==== Sys2Proof/Machine/Apu.lean ====
section
/-! DEFINITION. The APU façade (60_exceptions.md section 7): no state of its own, a step that does nothing, and a reset. -/

namespace Sys2Proof.Machine

/-- `apu_step(cycles)` "is a no-op in this iteration" (R485). -/
def apuStep (_cycles : Nat) (s : State) : State := s

/-- Zero `n` slots from slot `k` on. -/
def clearSlots : Nat → Nat → State → State
  | 0, _, s => s
  | n + 1, k, s => clearSlots n (k + 1) (setSlot k 0x00 s)

/-- The APU's reset: slots 0xFF10 to 0xFF3F are zeroed (R525). -/
def apuReset (s : State) : State := clearSlots 0x30 0x10 s

end Sys2Proof.Machine
end

