-- ==== Sys2Proof/Machine/Ppu.lean ====
section
/-! DEFINITION. The PPU state machine (60_exceptions.md section 4): the dot counter, LY, the modes, STAT and the VBlank request.
All its I/O accesses are on the privileged path (R460). -/

namespace Sys2Proof.Machine

/-- Dots in a scanline and scanlines in a frame (R462), the first VBlank line, and dots per cycle (R460). -/
def dotsPerLine : Nat := 456
@[inherit_doc dotsPerLine] def linesPerFrame : Nat := 154
@[inherit_doc dotsPerLine] def vblankLine : Nat := 144
@[inherit_doc dotsPerLine] def dotsPerCycle : Nat := 4

/-- LCDC bit 7, the LCD enable (R57). -/
def lcdOn (s : State) : Bool := (slot s slotLcdc).getLsbD 7

/-- The STAT number of a mode (R463). -/
def PpuMode.number : PpuMode → Byte
  | .hblank => 0
  | .vblank => 1
  | .oamSearch => 2
  | .transfer => 3

/-- The mode as a function of the line and the dot (R463). -/
def modeAt (ly dot : Nat) : PpuMode :=
  if ly ≥ vblankLine then .vblank
  else if dot < 80 then .oamSearch
  else if dot < 252 then .transfer
  else .hblank

/-- Recompute the mode when the LCD is on, and store STAT: mode in bits 1..0, `LY == LYC` in bit 2, bits 7..3 kept (R463). The
comparison uses the PPU's own `ly`. -/
def synthStat (s : State) : State :=
  let mode := if lcdOn s then modeAt s.ppu.ly s.ppu.dot else s.ppu.mode
  let coincidence : Byte := if s.ppu.ly = (slot s slotLyc).toNat then 1#8 <<< 2 else 0
  setSlot slotStat ((slot s slotStat &&& 0xF8) ||| coincidence ||| mode.number)
    { s with ppu := { s.ppu with mode := mode } }

/-- The LCD is disabled: LY, dot and mode are forced to zero and no time passes (R461). -/
def lcdOff (s : State) : State :=
  synthStat (setSlot slotLy 0x00 { s with ppu := { dot := 0, ly := 0, mode := .hblank, vblankLatched := false } })

/-- Record the VBlank request of this frame and post IF bit 0 (R462). -/
def enterVblank (s : State) : State :=
  postInterrupt 0 { s with ppu := { s.ppu with vblankLatched := true } }

/-- One pass of the loop of R462: a line's dots are taken off, LY advances (153 wraps to 0 and clears the latch), entering
line 144 requests VBlank once, and the LY slot is written. -/
def nextLine (s : State) : State :=
  let wraps := s.ppu.ly + 1 = linesPerFrame
  let s1 : State :=
    { s with ppu := { s.ppu with
        dot := s.ppu.dot - dotsPerLine
        ly := if wraps then 0 else s.ppu.ly + 1
        vblankLatched := if wraps then false else s.ppu.vblankLatched } }
  let s2 := if s1.ppu.ly = vblankLine ∧ s1.ppu.vblankLatched = false then enterVblank s1 else s1
  setSlot slotLy (BitVec.ofNat 8 s2.ppu.ly) s2

/-- The loop of R462 run a given number of times. -/
def advanceLines : Nat → State → State
  | 0, s => s
  | n + 1, s => advanceLines n (nextLine s)

/-- Advance the dot counter by `4 * cycles`; "while dot ≥ 456" passes `dot / 456` times (R462). -/
def ppuAdvance (cycles : Nat) (s : State) : State :=
  let dots := s.ppu.dot + dotsPerCycle * cycles
  advanceLines (dots / dotsPerLine) { s with ppu := { s.ppu with dot := dots } }

/-- `ppu_step(cycles)` (R460). LCDC bit 7 is sampled once, at the start. -/
def ppuStep (cycles : Nat) (s : State) : State :=
  if lcdOn s then synthStat (ppuAdvance cycles s) else lcdOff s

/-- The PPU's reset: it writes no slot (R523). -/
def ppuReset (s : State) : State := { s with ppu := Ppu.reset }

end Sys2Proof.Machine
end

