-- ==== Sys2Proof/Syntax.lean ====
section
/-! DEFINITION. Syntax: the operand vocabulary (R36, R37, R153, R154, R160), the inductive `Instr` with one constructor per row
of spec/opcode_table.json (R158, R160: 256 main-page cells, among them the eleven illegal bytes and PREFIX CB, and 256 CB-page
cells), and the operand view `Instr.form`, which says of each row which instruction of the spec it is and with which
operands.

Constructor names follow the table's mnemonics: `ldB_C` is LD B,C; `HLm`, `BCm`, `A16m` stand for (HL), (BC), (a16); `d8`,
`n8`, `e8`, `d16`, `a16` name an immediate operand, which is the constructor's argument. -/

namespace Sys2Proof

/-- The register index of R36: index 6, `hlm`, is "the byte at address HL". -/
inductive R8 where
  | b | c | d | e | h | l | hlm | a
  deriving DecidableEq, Repr

/-- The pair index under table `rp` of R37. -/
inductive Rp where
  | bc | de | hl | sp
  deriving DecidableEq, Repr

/-- The pair index under table `rp2` of R37 (PUSH and POP). -/
inductive Rp2 where
  | bc | de | hl | af
  deriving DecidableEq, Repr

/-- The condition codes of R154. -/
inductive Cond where
  | nz | z | nc | c
  deriving DecidableEq, Repr

/-- The operation of the eight 8-bit ALU instructions (R153). -/
inductive AluOp where
  | add | adc | sub | sbc | and | xor | or | cp
  deriving DecidableEq, Repr

/-- The rotate, shift and swap operations of the CB page (R401 to R408). -/
inductive RotOp where
  | rlc | rrc | rl | rr | sla | sra | swap | srl
  deriving DecidableEq, Repr

/-- The address modes of the indirect accumulator loads and stores (R203 to R210). -/
inductive IndMode where
  | bc | de | hlInc | hlDec
  deriving DecidableEq, Repr

/-- The instructions: one constructor per row of spec/opcode_table.json. The rows with an operand come first (Lean's compiler
gives constructors with arguments low numbers only), then the rows without one; each group main page first, in opcode order. -/
inductive Instr where
  | ldBC_d16 (v : Word)  -- 01: LD BC,d16, R202
  | ldB_d8 (v : Byte)  -- 06: LD B,d8, R201
  | ldA16m_SP (a : Word)  -- 08: LD (a16),SP, R221
  | ldC_d8 (v : Byte)  -- 0E: LD C,d8, R201
  | ldDE_d16 (v : Word)  -- 11: LD DE,d16, R202
  | ldD_d8 (v : Byte)  -- 16: LD D,d8, R201
  | jr_e8 (e : Byte)  -- 18: JR e8, R323
  | ldE_d8 (v : Byte)  -- 1E: LD E,d8, R201
  | jrNZ_e8 (e : Byte)  -- 20: JR NZ,e8, R324
  | ldHL_d16 (v : Word)  -- 21: LD HL,d16, R202
  | ldH_d8 (v : Byte)  -- 26: LD H,d8, R201
  | jrZ_e8 (e : Byte)  -- 28: JR Z,e8, R324
  | ldL_d8 (v : Byte)  -- 2E: LD L,d8, R201
  | jrNC_e8 (e : Byte)  -- 30: JR NC,e8, R324
  | ldSP_d16 (v : Word)  -- 31: LD SP,d16, R202
  | ldHLm_d8 (v : Byte)  -- 36: LD (HL),d8, R201
  | jrC_e8 (e : Byte)  -- 38: JR C,e8, R324
  | ldA_d8 (v : Byte)  -- 3E: LD A,d8, R201
  | jpNZ_a16 (a : Word)  -- C2: JP NZ,a16, R321
  | jp_a16 (a : Word)  -- C3: JP a16, R320
  | callNZ_a16 (a : Word)  -- C4: CALL NZ,a16, R326
  | addA_n8 (v : Byte)  -- C6: ADD A,n8, R251
  | jpZ_a16 (a : Word)  -- CA: JP Z,a16, R321
  | callZ_a16 (a : Word)  -- CC: CALL Z,a16, R326
  | call_a16 (a : Word)  -- CD: CALL a16, R325
  | adcA_n8 (v : Byte)  -- CE: ADC A,n8, R252
  | jpNC_a16 (a : Word)  -- D2: JP NC,a16, R321
  | callNC_a16 (a : Word)  -- D4: CALL NC,a16, R326
  | sub_n8 (v : Byte)  -- D6: SUB n8, R253
  | jpC_a16 (a : Word)  -- DA: JP C,a16, R321
  | callC_a16 (a : Word)  -- DC: CALL C,a16, R326
  | sbcA_n8 (v : Byte)  -- DE: SBC A,n8, R254
  | ldhN8m_A (n : Byte)  -- E0: LDH (n8),A, R217
  | and_n8 (v : Byte)  -- E6: AND n8, R255
  | addSP_e8 (e : Byte)  -- E8: ADD SP,e8, R303
  | ldA16m_A (a : Word)  -- EA: LD (a16),A, R215
  | xor_n8 (v : Byte)  -- EE: XOR n8, R256
  | ldhA_N8m (n : Byte)  -- F0: LDH A,(n8), R218
  | or_n8 (v : Byte)  -- F6: OR n8, R257
  | ldHL_SPe8 (e : Byte)  -- F8: LD HL,SP+e8, R304
  | ldA_A16m (a : Word)  -- FA: LD A,(a16), R216
  | cp_n8 (v : Byte)  -- FE: CP n8, R258
  | nop  -- 00: NOP, R361
  | ldBCm_A  -- 02: LD (BC),A, R203
  | incBC  -- 03: INC BC, R300
  | incB  -- 04: INC B, R259
  | decB  -- 05: DEC B, R260
  | rlca  -- 07: RLCA, R265
  | addHL_BC  -- 09: ADD HL,BC, R302
  | ldA_BCm  -- 0A: LD A,(BC), R207
  | decBC  -- 0B: DEC BC, R301
  | incC  -- 0C: INC C, R259
  | decC  -- 0D: DEC C, R260
  | rrca  -- 0F: RRCA, R266
  | stop  -- 10: STOP, R363
  | ldDEm_A  -- 12: LD (DE),A, R204
  | incDE  -- 13: INC DE, R300
  | incD  -- 14: INC D, R259
  | decD  -- 15: DEC D, R260
  | rla  -- 17: RLA, R267
  | addHL_DE  -- 19: ADD HL,DE, R302
  | ldA_DEm  -- 1A: LD A,(DE), R208
  | decDE  -- 1B: DEC DE, R301
  | incE  -- 1C: INC E, R259
  | decE  -- 1D: DEC E, R260
  | rra  -- 1F: RRA, R268
  | ldHLinc_A  -- 22: LD (HL+),A, R205
  | incHL  -- 23: INC HL, R300
  | incH  -- 24: INC H, R259
  | decH  -- 25: DEC H, R260
  | daa  -- 27: DAA, R261
  | addHL_HL  -- 29: ADD HL,HL, R302
  | ldA_HLinc  -- 2A: LD A,(HL+), R209
  | decHL  -- 2B: DEC HL, R301
  | incL  -- 2C: INC L, R259
  | decL  -- 2D: DEC L, R260
  | cpl  -- 2F: CPL, R262
  | ldHLdec_A  -- 32: LD (HL-),A, R206
  | incSP  -- 33: INC SP, R300
  | incHLm  -- 34: INC (HL), R259
  | decHLm  -- 35: DEC (HL), R260
  | scf  -- 37: SCF, R263
  | addHL_SP  -- 39: ADD HL,SP, R302
  | ldA_HLdec  -- 3A: LD A,(HL-), R210
  | decSP  -- 3B: DEC SP, R301
  | incA  -- 3C: INC A, R259
  | decA  -- 3D: DEC A, R260
  | ccf  -- 3F: CCF, R264
  | ldB_B  -- 40: LD B,B, R200
  | ldB_C  -- 41: LD B,C, R200
  | ldB_D  -- 42: LD B,D, R200
  | ldB_E  -- 43: LD B,E, R200
  | ldB_H  -- 44: LD B,H, R200
  | ldB_L  -- 45: LD B,L, R200
  | ldB_HLm  -- 46: LD B,(HL), R200
  | ldB_A  -- 47: LD B,A, R200
  | ldC_B  -- 48: LD C,B, R200
  | ldC_C  -- 49: LD C,C, R200
  | ldC_D  -- 4A: LD C,D, R200
  | ldC_E  -- 4B: LD C,E, R200
  | ldC_H  -- 4C: LD C,H, R200
  | ldC_L  -- 4D: LD C,L, R200
  | ldC_HLm  -- 4E: LD C,(HL), R200
  | ldC_A  -- 4F: LD C,A, R200
  | ldD_B  -- 50: LD D,B, R200
  | ldD_C  -- 51: LD D,C, R200
  | ldD_D  -- 52: LD D,D, R200
  | ldD_E  -- 53: LD D,E, R200
  | ldD_H  -- 54: LD D,H, R200
  | ldD_L  -- 55: LD D,L, R200
  | ldD_HLm  -- 56: LD D,(HL), R200
  | ldD_A  -- 57: LD D,A, R200
  | ldE_B  -- 58: LD E,B, R200
  | ldE_C  -- 59: LD E,C, R200
  | ldE_D  -- 5A: LD E,D, R200
  | ldE_E  -- 5B: LD E,E, R200
  | ldE_H  -- 5C: LD E,H, R200
  | ldE_L  -- 5D: LD E,L, R200
  | ldE_HLm  -- 5E: LD E,(HL), R200
  | ldE_A  -- 5F: LD E,A, R200
  | ldH_B  -- 60: LD H,B, R200
  | ldH_C  -- 61: LD H,C, R200
  | ldH_D  -- 62: LD H,D, R200
  | ldH_E  -- 63: LD H,E, R200
  | ldH_H  -- 64: LD H,H, R200
  | ldH_L  -- 65: LD H,L, R200
  | ldH_HLm  -- 66: LD H,(HL), R200
  | ldH_A  -- 67: LD H,A, R200
  | ldL_B  -- 68: LD L,B, R200
  | ldL_C  -- 69: LD L,C, R200
  | ldL_D  -- 6A: LD L,D, R200
  | ldL_E  -- 6B: LD L,E, R200
  | ldL_H  -- 6C: LD L,H, R200
  | ldL_L  -- 6D: LD L,L, R200
  | ldL_HLm  -- 6E: LD L,(HL), R200
  | ldL_A  -- 6F: LD L,A, R200
  | ldHLm_B  -- 70: LD (HL),B, R200
  | ldHLm_C  -- 71: LD (HL),C, R200
  | ldHLm_D  -- 72: LD (HL),D, R200
  | ldHLm_E  -- 73: LD (HL),E, R200
  | ldHLm_H  -- 74: LD (HL),H, R200
  | ldHLm_L  -- 75: LD (HL),L, R200
  | halt  -- 76: HALT, R362
  | ldHLm_A  -- 77: LD (HL),A, R200
  | ldA_B  -- 78: LD A,B, R200
  | ldA_C  -- 79: LD A,C, R200
  | ldA_D  -- 7A: LD A,D, R200
  | ldA_E  -- 7B: LD A,E, R200
  | ldA_H  -- 7C: LD A,H, R200
  | ldA_L  -- 7D: LD A,L, R200
  | ldA_HLm  -- 7E: LD A,(HL), R200
  | ldA_A  -- 7F: LD A,A, R200
  | addA_B  -- 80: ADD A,B, R251
  | addA_C  -- 81: ADD A,C, R251
  | addA_D  -- 82: ADD A,D, R251
  | addA_E  -- 83: ADD A,E, R251
  | addA_H  -- 84: ADD A,H, R251
  | addA_L  -- 85: ADD A,L, R251
  | addA_HLm  -- 86: ADD A,(HL), R251
  | addA_A  -- 87: ADD A,A, R251
  | adcA_B  -- 88: ADC A,B, R252
  | adcA_C  -- 89: ADC A,C, R252
  | adcA_D  -- 8A: ADC A,D, R252
  | adcA_E  -- 8B: ADC A,E, R252
  | adcA_H  -- 8C: ADC A,H, R252
  | adcA_L  -- 8D: ADC A,L, R252
  | adcA_HLm  -- 8E: ADC A,(HL), R252
  | adcA_A  -- 8F: ADC A,A, R252
  | sub_B  -- 90: SUB B, R253
  | sub_C  -- 91: SUB C, R253
  | sub_D  -- 92: SUB D, R253
  | sub_E  -- 93: SUB E, R253
  | sub_H  -- 94: SUB H, R253
  | sub_L  -- 95: SUB L, R253
  | sub_HLm  -- 96: SUB (HL), R253
  | sub_A  -- 97: SUB A, R253
  | sbcA_B  -- 98: SBC A,B, R254
  | sbcA_C  -- 99: SBC A,C, R254
  | sbcA_D  -- 9A: SBC A,D, R254
  | sbcA_E  -- 9B: SBC A,E, R254
  | sbcA_H  -- 9C: SBC A,H, R254
  | sbcA_L  -- 9D: SBC A,L, R254
  | sbcA_HLm  -- 9E: SBC A,(HL), R254
  | sbcA_A  -- 9F: SBC A,A, R254
  | and_B  -- A0: AND B, R255
  | and_C  -- A1: AND C, R255
  | and_D  -- A2: AND D, R255
  | and_E  -- A3: AND E, R255
  | and_H  -- A4: AND H, R255
  | and_L  -- A5: AND L, R255
  | and_HLm  -- A6: AND (HL), R255
  | and_A  -- A7: AND A, R255
  | xor_B  -- A8: XOR B, R256
  | xor_C  -- A9: XOR C, R256
  | xor_D  -- AA: XOR D, R256
  | xor_E  -- AB: XOR E, R256
  | xor_H  -- AC: XOR H, R256
  | xor_L  -- AD: XOR L, R256
  | xor_HLm  -- AE: XOR (HL), R256
  | xor_A  -- AF: XOR A, R256
  | or_B  -- B0: OR B, R257
  | or_C  -- B1: OR C, R257
  | or_D  -- B2: OR D, R257
  | or_E  -- B3: OR E, R257
  | or_H  -- B4: OR H, R257
  | or_L  -- B5: OR L, R257
  | or_HLm  -- B6: OR (HL), R257
  | or_A  -- B7: OR A, R257
  | cp_B  -- B8: CP B, R258
  | cp_C  -- B9: CP C, R258
  | cp_D  -- BA: CP D, R258
  | cp_E  -- BB: CP E, R258
  | cp_H  -- BC: CP H, R258
  | cp_L  -- BD: CP L, R258
  | cp_HLm  -- BE: CP (HL), R258
  | cp_A  -- BF: CP A, R258
  | retNZ  -- C0: RET NZ, R328
  | popBC  -- C1: POP BC, R213
  | pushBC  -- C5: PUSH BC, R214
  | rst00  -- C7: RST 0x00, R330
  | retZ  -- C8: RET Z, R328
  | ret  -- C9: RET, R327
  | prefixCb  -- CB: PREFIX CB, R367
  | rst08  -- CF: RST 0x08, R330
  | retNC  -- D0: RET NC, R328
  | popDE  -- D1: POP DE, R213
  | illegalD3  -- D3: ILLEGAL, R366
  | pushDE  -- D5: PUSH DE, R214
  | rst10  -- D7: RST 0x10, R330
  | retC  -- D8: RET C, R328
  | reti  -- D9: RETI, R329
  | illegalDB  -- DB: ILLEGAL, R366
  | illegalDD  -- DD: ILLEGAL, R366
  | rst18  -- DF: RST 0x18, R330
  | popHL  -- E1: POP HL, R213
  | ldCm_A  -- E2: LD (C),A, R219
  | illegalE3  -- E3: ILLEGAL, R366
  | illegalE4  -- E4: ILLEGAL, R366
  | pushHL  -- E5: PUSH HL, R214
  | rst20  -- E7: RST 0x20, R330
  | jpHL  -- E9: JP (HL), R322
  | illegalEB  -- EB: ILLEGAL, R366
  | illegalEC  -- EC: ILLEGAL, R366
  | illegalED  -- ED: ILLEGAL, R366
  | rst28  -- EF: RST 0x28, R330
  | popAF  -- F1: POP AF, R213
  | ldA_Cm  -- F2: LD A,(C), R220
  | di  -- F3: DI, R364
  | illegalF4  -- F4: ILLEGAL, R366
  | pushAF  -- F5: PUSH AF, R214
  | rst30  -- F7: RST 0x30, R330
  | ldSP_HL  -- F9: LD SP,HL, R222
  | ei  -- FB: EI, R365
  | illegalFC  -- FC: ILLEGAL, R366
  | illegalFD  -- FD: ILLEGAL, R366
  | rst38  -- FF: RST 0x38, R330
  | rlc_B  -- CB 00: RLC B, R401
  | rlc_C  -- CB 01: RLC C, R401
  | rlc_D  -- CB 02: RLC D, R401
  | rlc_E  -- CB 03: RLC E, R401
  | rlc_H  -- CB 04: RLC H, R401
  | rlc_L  -- CB 05: RLC L, R401
  | rlc_HLm  -- CB 06: RLC (HL), R401
  | rlc_A  -- CB 07: RLC A, R401
  | rrc_B  -- CB 08: RRC B, R402
  | rrc_C  -- CB 09: RRC C, R402
  | rrc_D  -- CB 0A: RRC D, R402
  | rrc_E  -- CB 0B: RRC E, R402
  | rrc_H  -- CB 0C: RRC H, R402
  | rrc_L  -- CB 0D: RRC L, R402
  | rrc_HLm  -- CB 0E: RRC (HL), R402
  | rrc_A  -- CB 0F: RRC A, R402
  | rl_B  -- CB 10: RL B, R403
  | rl_C  -- CB 11: RL C, R403
  | rl_D  -- CB 12: RL D, R403
  | rl_E  -- CB 13: RL E, R403
  | rl_H  -- CB 14: RL H, R403
  | rl_L  -- CB 15: RL L, R403
  | rl_HLm  -- CB 16: RL (HL), R403
  | rl_A  -- CB 17: RL A, R403
  | rr_B  -- CB 18: RR B, R404
  | rr_C  -- CB 19: RR C, R404
  | rr_D  -- CB 1A: RR D, R404
  | rr_E  -- CB 1B: RR E, R404
  | rr_H  -- CB 1C: RR H, R404
  | rr_L  -- CB 1D: RR L, R404
  | rr_HLm  -- CB 1E: RR (HL), R404
  | rr_A  -- CB 1F: RR A, R404
  | sla_B  -- CB 20: SLA B, R405
  | sla_C  -- CB 21: SLA C, R405
  | sla_D  -- CB 22: SLA D, R405
  | sla_E  -- CB 23: SLA E, R405
  | sla_H  -- CB 24: SLA H, R405
  | sla_L  -- CB 25: SLA L, R405
  | sla_HLm  -- CB 26: SLA (HL), R405
  | sla_A  -- CB 27: SLA A, R405
  | sra_B  -- CB 28: SRA B, R406
  | sra_C  -- CB 29: SRA C, R406
  | sra_D  -- CB 2A: SRA D, R406
  | sra_E  -- CB 2B: SRA E, R406
  | sra_H  -- CB 2C: SRA H, R406
  | sra_L  -- CB 2D: SRA L, R406
  | sra_HLm  -- CB 2E: SRA (HL), R406
  | sra_A  -- CB 2F: SRA A, R406
  | swap_B  -- CB 30: SWAP B, R407
  | swap_C  -- CB 31: SWAP C, R407
  | swap_D  -- CB 32: SWAP D, R407
  | swap_E  -- CB 33: SWAP E, R407
  | swap_H  -- CB 34: SWAP H, R407
  | swap_L  -- CB 35: SWAP L, R407
  | swap_HLm  -- CB 36: SWAP (HL), R407
  | swap_A  -- CB 37: SWAP A, R407
  | srl_B  -- CB 38: SRL B, R408
  | srl_C  -- CB 39: SRL C, R408
  | srl_D  -- CB 3A: SRL D, R408
  | srl_E  -- CB 3B: SRL E, R408
  | srl_H  -- CB 3C: SRL H, R408
  | srl_L  -- CB 3D: SRL L, R408
  | srl_HLm  -- CB 3E: SRL (HL), R408
  | srl_A  -- CB 3F: SRL A, R408
  | bit0_B  -- CB 40: BIT 0,B, R409
  | bit0_C  -- CB 41: BIT 0,C, R409
  | bit0_D  -- CB 42: BIT 0,D, R409
  | bit0_E  -- CB 43: BIT 0,E, R409
  | bit0_H  -- CB 44: BIT 0,H, R409
  | bit0_L  -- CB 45: BIT 0,L, R409
  | bit0_HLm  -- CB 46: BIT 0,(HL), R409
  | bit0_A  -- CB 47: BIT 0,A, R409
  | bit1_B  -- CB 48: BIT 1,B, R409
  | bit1_C  -- CB 49: BIT 1,C, R409
  | bit1_D  -- CB 4A: BIT 1,D, R409
  | bit1_E  -- CB 4B: BIT 1,E, R409
  | bit1_H  -- CB 4C: BIT 1,H, R409
  | bit1_L  -- CB 4D: BIT 1,L, R409
  | bit1_HLm  -- CB 4E: BIT 1,(HL), R409
  | bit1_A  -- CB 4F: BIT 1,A, R409
  | bit2_B  -- CB 50: BIT 2,B, R409
  | bit2_C  -- CB 51: BIT 2,C, R409
  | bit2_D  -- CB 52: BIT 2,D, R409
  | bit2_E  -- CB 53: BIT 2,E, R409
  | bit2_H  -- CB 54: BIT 2,H, R409
  | bit2_L  -- CB 55: BIT 2,L, R409
  | bit2_HLm  -- CB 56: BIT 2,(HL), R409
  | bit2_A  -- CB 57: BIT 2,A, R409
  | bit3_B  -- CB 58: BIT 3,B, R409
  | bit3_C  -- CB 59: BIT 3,C, R409
  | bit3_D  -- CB 5A: BIT 3,D, R409
  | bit3_E  -- CB 5B: BIT 3,E, R409
  | bit3_H  -- CB 5C: BIT 3,H, R409
  | bit3_L  -- CB 5D: BIT 3,L, R409
  | bit3_HLm  -- CB 5E: BIT 3,(HL), R409
  | bit3_A  -- CB 5F: BIT 3,A, R409
  | bit4_B  -- CB 60: BIT 4,B, R409
  | bit4_C  -- CB 61: BIT 4,C, R409
  | bit4_D  -- CB 62: BIT 4,D, R409
  | bit4_E  -- CB 63: BIT 4,E, R409
  | bit4_H  -- CB 64: BIT 4,H, R409
  | bit4_L  -- CB 65: BIT 4,L, R409
  | bit4_HLm  -- CB 66: BIT 4,(HL), R409
  | bit4_A  -- CB 67: BIT 4,A, R409
  | bit5_B  -- CB 68: BIT 5,B, R409
  | bit5_C  -- CB 69: BIT 5,C, R409
  | bit5_D  -- CB 6A: BIT 5,D, R409
  | bit5_E  -- CB 6B: BIT 5,E, R409
  | bit5_H  -- CB 6C: BIT 5,H, R409
  | bit5_L  -- CB 6D: BIT 5,L, R409
  | bit5_HLm  -- CB 6E: BIT 5,(HL), R409
  | bit5_A  -- CB 6F: BIT 5,A, R409
  | bit6_B  -- CB 70: BIT 6,B, R409
  | bit6_C  -- CB 71: BIT 6,C, R409
  | bit6_D  -- CB 72: BIT 6,D, R409
  | bit6_E  -- CB 73: BIT 6,E, R409
  | bit6_H  -- CB 74: BIT 6,H, R409
  | bit6_L  -- CB 75: BIT 6,L, R409
  | bit6_HLm  -- CB 76: BIT 6,(HL), R409
  | bit6_A  -- CB 77: BIT 6,A, R409
  | bit7_B  -- CB 78: BIT 7,B, R409
  | bit7_C  -- CB 79: BIT 7,C, R409
  | bit7_D  -- CB 7A: BIT 7,D, R409
  | bit7_E  -- CB 7B: BIT 7,E, R409
  | bit7_H  -- CB 7C: BIT 7,H, R409
  | bit7_L  -- CB 7D: BIT 7,L, R409
  | bit7_HLm  -- CB 7E: BIT 7,(HL), R409
  | bit7_A  -- CB 7F: BIT 7,A, R409
  | res0_B  -- CB 80: RES 0,B, R410
  | res0_C  -- CB 81: RES 0,C, R410
  | res0_D  -- CB 82: RES 0,D, R410
  | res0_E  -- CB 83: RES 0,E, R410
  | res0_H  -- CB 84: RES 0,H, R410
  | res0_L  -- CB 85: RES 0,L, R410
  | res0_HLm  -- CB 86: RES 0,(HL), R410
  | res0_A  -- CB 87: RES 0,A, R410
  | res1_B  -- CB 88: RES 1,B, R410
  | res1_C  -- CB 89: RES 1,C, R410
  | res1_D  -- CB 8A: RES 1,D, R410
  | res1_E  -- CB 8B: RES 1,E, R410
  | res1_H  -- CB 8C: RES 1,H, R410
  | res1_L  -- CB 8D: RES 1,L, R410
  | res1_HLm  -- CB 8E: RES 1,(HL), R410
  | res1_A  -- CB 8F: RES 1,A, R410
  | res2_B  -- CB 90: RES 2,B, R410
  | res2_C  -- CB 91: RES 2,C, R410
  | res2_D  -- CB 92: RES 2,D, R410
  | res2_E  -- CB 93: RES 2,E, R410
  | res2_H  -- CB 94: RES 2,H, R410
  | res2_L  -- CB 95: RES 2,L, R410
  | res2_HLm  -- CB 96: RES 2,(HL), R410
  | res2_A  -- CB 97: RES 2,A, R410
  | res3_B  -- CB 98: RES 3,B, R410
  | res3_C  -- CB 99: RES 3,C, R410
  | res3_D  -- CB 9A: RES 3,D, R410
  | res3_E  -- CB 9B: RES 3,E, R410
  | res3_H  -- CB 9C: RES 3,H, R410
  | res3_L  -- CB 9D: RES 3,L, R410
  | res3_HLm  -- CB 9E: RES 3,(HL), R410
  | res3_A  -- CB 9F: RES 3,A, R410
  | res4_B  -- CB A0: RES 4,B, R410
  | res4_C  -- CB A1: RES 4,C, R410
  | res4_D  -- CB A2: RES 4,D, R410
  | res4_E  -- CB A3: RES 4,E, R410
  | res4_H  -- CB A4: RES 4,H, R410
  | res4_L  -- CB A5: RES 4,L, R410
  | res4_HLm  -- CB A6: RES 4,(HL), R410
  | res4_A  -- CB A7: RES 4,A, R410
  | res5_B  -- CB A8: RES 5,B, R410
  | res5_C  -- CB A9: RES 5,C, R410
  | res5_D  -- CB AA: RES 5,D, R410
  | res5_E  -- CB AB: RES 5,E, R410
  | res5_H  -- CB AC: RES 5,H, R410
  | res5_L  -- CB AD: RES 5,L, R410
  | res5_HLm  -- CB AE: RES 5,(HL), R410
  | res5_A  -- CB AF: RES 5,A, R410
  | res6_B  -- CB B0: RES 6,B, R410
  | res6_C  -- CB B1: RES 6,C, R410
  | res6_D  -- CB B2: RES 6,D, R410
  | res6_E  -- CB B3: RES 6,E, R410
  | res6_H  -- CB B4: RES 6,H, R410
  | res6_L  -- CB B5: RES 6,L, R410
  | res6_HLm  -- CB B6: RES 6,(HL), R410
  | res6_A  -- CB B7: RES 6,A, R410
  | res7_B  -- CB B8: RES 7,B, R410
  | res7_C  -- CB B9: RES 7,C, R410
  | res7_D  -- CB BA: RES 7,D, R410
  | res7_E  -- CB BB: RES 7,E, R410
  | res7_H  -- CB BC: RES 7,H, R410
  | res7_L  -- CB BD: RES 7,L, R410
  | res7_HLm  -- CB BE: RES 7,(HL), R410
  | res7_A  -- CB BF: RES 7,A, R410
  | set0_B  -- CB C0: SET 0,B, R411
  | set0_C  -- CB C1: SET 0,C, R411
  | set0_D  -- CB C2: SET 0,D, R411
  | set0_E  -- CB C3: SET 0,E, R411
  | set0_H  -- CB C4: SET 0,H, R411
  | set0_L  -- CB C5: SET 0,L, R411
  | set0_HLm  -- CB C6: SET 0,(HL), R411
  | set0_A  -- CB C7: SET 0,A, R411
  | set1_B  -- CB C8: SET 1,B, R411
  | set1_C  -- CB C9: SET 1,C, R411
  | set1_D  -- CB CA: SET 1,D, R411
  | set1_E  -- CB CB: SET 1,E, R411
  | set1_H  -- CB CC: SET 1,H, R411
  | set1_L  -- CB CD: SET 1,L, R411
  | set1_HLm  -- CB CE: SET 1,(HL), R411
  | set1_A  -- CB CF: SET 1,A, R411
  | set2_B  -- CB D0: SET 2,B, R411
  | set2_C  -- CB D1: SET 2,C, R411
  | set2_D  -- CB D2: SET 2,D, R411
  | set2_E  -- CB D3: SET 2,E, R411
  | set2_H  -- CB D4: SET 2,H, R411
  | set2_L  -- CB D5: SET 2,L, R411
  | set2_HLm  -- CB D6: SET 2,(HL), R411
  | set2_A  -- CB D7: SET 2,A, R411
  | set3_B  -- CB D8: SET 3,B, R411
  | set3_C  -- CB D9: SET 3,C, R411
  | set3_D  -- CB DA: SET 3,D, R411
  | set3_E  -- CB DB: SET 3,E, R411
  | set3_H  -- CB DC: SET 3,H, R411
  | set3_L  -- CB DD: SET 3,L, R411
  | set3_HLm  -- CB DE: SET 3,(HL), R411
  | set3_A  -- CB DF: SET 3,A, R411
  | set4_B  -- CB E0: SET 4,B, R411
  | set4_C  -- CB E1: SET 4,C, R411
  | set4_D  -- CB E2: SET 4,D, R411
  | set4_E  -- CB E3: SET 4,E, R411
  | set4_H  -- CB E4: SET 4,H, R411
  | set4_L  -- CB E5: SET 4,L, R411
  | set4_HLm  -- CB E6: SET 4,(HL), R411
  | set4_A  -- CB E7: SET 4,A, R411
  | set5_B  -- CB E8: SET 5,B, R411
  | set5_C  -- CB E9: SET 5,C, R411
  | set5_D  -- CB EA: SET 5,D, R411
  | set5_E  -- CB EB: SET 5,E, R411
  | set5_H  -- CB EC: SET 5,H, R411
  | set5_L  -- CB ED: SET 5,L, R411
  | set5_HLm  -- CB EE: SET 5,(HL), R411
  | set5_A  -- CB EF: SET 5,A, R411
  | set6_B  -- CB F0: SET 6,B, R411
  | set6_C  -- CB F1: SET 6,C, R411
  | set6_D  -- CB F2: SET 6,D, R411
  | set6_E  -- CB F3: SET 6,E, R411
  | set6_H  -- CB F4: SET 6,H, R411
  | set6_L  -- CB F5: SET 6,L, R411
  | set6_HLm  -- CB F6: SET 6,(HL), R411
  | set6_A  -- CB F7: SET 6,A, R411
  | set7_B  -- CB F8: SET 7,B, R411
  | set7_C  -- CB F9: SET 7,C, R411
  | set7_D  -- CB FA: SET 7,D, R411
  | set7_E  -- CB FB: SET 7,E, R411
  | set7_H  -- CB FC: SET 7,H, R411
  | set7_L  -- CB FD: SET 7,L, R411
  | set7_HLm  -- CB FE: SET 7,(HL), R411
  | set7_A  -- CB FF: SET 7,A, R411
  deriving DecidableEq, Repr

/-- The operand view of an instruction: which instruction of the spec it is, with its operands. -/
inductive Form where
  | ld (dst src : R8)                 -- R200
  | ldImm (dst : R8) (v : Byte)       -- R201
  | ldPairImm (p : Rp) (v : Word)     -- R202
  | storeInd (m : IndMode)            -- R203 to R206
  | loadInd (m : IndMode)             -- R207 to R210
  | pop (p : Rp2)                     -- R213
  | push (p : Rp2)                    -- R214
  | storeAbs (a : Word)               -- R215
  | loadAbs (a : Word)                -- R216
  | storeHigh (n : Byte)              -- R217
  | loadHigh (n : Byte)               -- R218
  | storeHighC                        -- R219
  | loadHighC                         -- R220
  | storeSp (a : Word)                -- R221
  | ldSpHl                            -- R222
  | aluReg (op : AluOp) (r : R8)      -- R250 to R258
  | aluImm (op : AluOp) (v : Byte)    -- R250 to R258
  | incReg (r : R8)                   -- R259
  | decReg (r : R8)                   -- R260
  | daa | cpl | scf | ccf             -- R261 to R264
  | rlca | rrca | rla | rra           -- R265 to R268
  | incPair (p : Rp)                  -- R300
  | decPair (p : Rp)                  -- R301
  | addHl (p : Rp)                    -- R302
  | addSp (e : Byte)                  -- R303
  | ldHlSp (e : Byte)                 -- R304
  | jp (a : Word)                     -- R320
  | jpCond (cc : Cond) (a : Word)     -- R321
  | jpHl                              -- R322
  | jr (e : Byte)                     -- R323
  | jrCond (cc : Cond) (e : Byte)     -- R324
  | call (a : Word)                   -- R325
  | callCond (cc : Cond) (a : Word)   -- R326
  | ret                               -- R327
  | retCond (cc : Cond)               -- R328
  | reti                              -- R329
  | rst (y : BitVec 3)                -- R330
  | nop | halt | stop | di | ei       -- R361 to R365
  | illegal (op : Byte)               -- R366
  | prefixCb                          -- R367
  | rot (op : RotOp) (r : R8)         -- R401 to R408
  | bit (b : BitVec 3) (r : R8)       -- R409
  | res (b : BitVec 3) (r : R8)       -- R410
  | set (b : BitVec 3) (r : R8)       -- R411
  deriving DecidableEq, Repr

/-- The operand view of each instruction, row by row of R158 and R160. -/
def Instr.form : Instr → Form
  | .nop => .nop
  | .ldBC_d16 v => .ldPairImm .bc v
  | .ldBCm_A => .storeInd .bc
  | .incBC => .incPair .bc
  | .incB => .incReg .b
  | .decB => .decReg .b
  | .ldB_d8 v => .ldImm .b v
  | .rlca => .rlca
  | .ldA16m_SP a => .storeSp a
  | .addHL_BC => .addHl .bc
  | .ldA_BCm => .loadInd .bc
  | .decBC => .decPair .bc
  | .incC => .incReg .c
  | .decC => .decReg .c
  | .ldC_d8 v => .ldImm .c v
  | .rrca => .rrca
  | .stop => .stop
  | .ldDE_d16 v => .ldPairImm .de v
  | .ldDEm_A => .storeInd .de
  | .incDE => .incPair .de
  | .incD => .incReg .d
  | .decD => .decReg .d
  | .ldD_d8 v => .ldImm .d v
  | .rla => .rla
  | .jr_e8 e => .jr e
  | .addHL_DE => .addHl .de
  | .ldA_DEm => .loadInd .de
  | .decDE => .decPair .de
  | .incE => .incReg .e
  | .decE => .decReg .e
  | .ldE_d8 v => .ldImm .e v
  | .rra => .rra
  | .jrNZ_e8 e => .jrCond .nz e
  | .ldHL_d16 v => .ldPairImm .hl v
  | .ldHLinc_A => .storeInd .hlInc
  | .incHL => .incPair .hl
  | .incH => .incReg .h
  | .decH => .decReg .h
  | .ldH_d8 v => .ldImm .h v
  | .daa => .daa
  | .jrZ_e8 e => .jrCond .z e
  | .addHL_HL => .addHl .hl
  | .ldA_HLinc => .loadInd .hlInc
  | .decHL => .decPair .hl
  | .incL => .incReg .l
  | .decL => .decReg .l
  | .ldL_d8 v => .ldImm .l v
  | .cpl => .cpl
  | .jrNC_e8 e => .jrCond .nc e
  | .ldSP_d16 v => .ldPairImm .sp v
  | .ldHLdec_A => .storeInd .hlDec
  | .incSP => .incPair .sp
  | .incHLm => .incReg .hlm
  | .decHLm => .decReg .hlm
  | .ldHLm_d8 v => .ldImm .hlm v
  | .scf => .scf
  | .jrC_e8 e => .jrCond .c e
  | .addHL_SP => .addHl .sp
  | .ldA_HLdec => .loadInd .hlDec
  | .decSP => .decPair .sp
  | .incA => .incReg .a
  | .decA => .decReg .a
  | .ldA_d8 v => .ldImm .a v
  | .ccf => .ccf
  | .ldB_B => .ld .b .b
  | .ldB_C => .ld .b .c
  | .ldB_D => .ld .b .d
  | .ldB_E => .ld .b .e
  | .ldB_H => .ld .b .h
  | .ldB_L => .ld .b .l
  | .ldB_HLm => .ld .b .hlm
  | .ldB_A => .ld .b .a
  | .ldC_B => .ld .c .b
  | .ldC_C => .ld .c .c
  | .ldC_D => .ld .c .d
  | .ldC_E => .ld .c .e
  | .ldC_H => .ld .c .h
  | .ldC_L => .ld .c .l
  | .ldC_HLm => .ld .c .hlm
  | .ldC_A => .ld .c .a
  | .ldD_B => .ld .d .b
  | .ldD_C => .ld .d .c
  | .ldD_D => .ld .d .d
  | .ldD_E => .ld .d .e
  | .ldD_H => .ld .d .h
  | .ldD_L => .ld .d .l
  | .ldD_HLm => .ld .d .hlm
  | .ldD_A => .ld .d .a
  | .ldE_B => .ld .e .b
  | .ldE_C => .ld .e .c
  | .ldE_D => .ld .e .d
  | .ldE_E => .ld .e .e
  | .ldE_H => .ld .e .h
  | .ldE_L => .ld .e .l
  | .ldE_HLm => .ld .e .hlm
  | .ldE_A => .ld .e .a
  | .ldH_B => .ld .h .b
  | .ldH_C => .ld .h .c
  | .ldH_D => .ld .h .d
  | .ldH_E => .ld .h .e
  | .ldH_H => .ld .h .h
  | .ldH_L => .ld .h .l
  | .ldH_HLm => .ld .h .hlm
  | .ldH_A => .ld .h .a
  | .ldL_B => .ld .l .b
  | .ldL_C => .ld .l .c
  | .ldL_D => .ld .l .d
  | .ldL_E => .ld .l .e
  | .ldL_H => .ld .l .h
  | .ldL_L => .ld .l .l
  | .ldL_HLm => .ld .l .hlm
  | .ldL_A => .ld .l .a
  | .ldHLm_B => .ld .hlm .b
  | .ldHLm_C => .ld .hlm .c
  | .ldHLm_D => .ld .hlm .d
  | .ldHLm_E => .ld .hlm .e
  | .ldHLm_H => .ld .hlm .h
  | .ldHLm_L => .ld .hlm .l
  | .halt => .halt
  | .ldHLm_A => .ld .hlm .a
  | .ldA_B => .ld .a .b
  | .ldA_C => .ld .a .c
  | .ldA_D => .ld .a .d
  | .ldA_E => .ld .a .e
  | .ldA_H => .ld .a .h
  | .ldA_L => .ld .a .l
  | .ldA_HLm => .ld .a .hlm
  | .ldA_A => .ld .a .a
  | .addA_B => .aluReg .add .b
  | .addA_C => .aluReg .add .c
  | .addA_D => .aluReg .add .d
  | .addA_E => .aluReg .add .e
  | .addA_H => .aluReg .add .h
  | .addA_L => .aluReg .add .l
  | .addA_HLm => .aluReg .add .hlm
  | .addA_A => .aluReg .add .a
  | .adcA_B => .aluReg .adc .b
  | .adcA_C => .aluReg .adc .c
  | .adcA_D => .aluReg .adc .d
  | .adcA_E => .aluReg .adc .e
  | .adcA_H => .aluReg .adc .h
  | .adcA_L => .aluReg .adc .l
  | .adcA_HLm => .aluReg .adc .hlm
  | .adcA_A => .aluReg .adc .a
  | .sub_B => .aluReg .sub .b
  | .sub_C => .aluReg .sub .c
  | .sub_D => .aluReg .sub .d
  | .sub_E => .aluReg .sub .e
  | .sub_H => .aluReg .sub .h
  | .sub_L => .aluReg .sub .l
  | .sub_HLm => .aluReg .sub .hlm
  | .sub_A => .aluReg .sub .a
  | .sbcA_B => .aluReg .sbc .b
  | .sbcA_C => .aluReg .sbc .c
  | .sbcA_D => .aluReg .sbc .d
  | .sbcA_E => .aluReg .sbc .e
  | .sbcA_H => .aluReg .sbc .h
  | .sbcA_L => .aluReg .sbc .l
  | .sbcA_HLm => .aluReg .sbc .hlm
  | .sbcA_A => .aluReg .sbc .a
  | .and_B => .aluReg .and .b
  | .and_C => .aluReg .and .c
  | .and_D => .aluReg .and .d
  | .and_E => .aluReg .and .e
  | .and_H => .aluReg .and .h
  | .and_L => .aluReg .and .l
  | .and_HLm => .aluReg .and .hlm
  | .and_A => .aluReg .and .a
  | .xor_B => .aluReg .xor .b
  | .xor_C => .aluReg .xor .c
  | .xor_D => .aluReg .xor .d
  | .xor_E => .aluReg .xor .e
  | .xor_H => .aluReg .xor .h
  | .xor_L => .aluReg .xor .l
  | .xor_HLm => .aluReg .xor .hlm
  | .xor_A => .aluReg .xor .a
  | .or_B => .aluReg .or .b
  | .or_C => .aluReg .or .c
  | .or_D => .aluReg .or .d
  | .or_E => .aluReg .or .e
  | .or_H => .aluReg .or .h
  | .or_L => .aluReg .or .l
  | .or_HLm => .aluReg .or .hlm
  | .or_A => .aluReg .or .a
  | .cp_B => .aluReg .cp .b
  | .cp_C => .aluReg .cp .c
  | .cp_D => .aluReg .cp .d
  | .cp_E => .aluReg .cp .e
  | .cp_H => .aluReg .cp .h
  | .cp_L => .aluReg .cp .l
  | .cp_HLm => .aluReg .cp .hlm
  | .cp_A => .aluReg .cp .a
  | .retNZ => .retCond .nz
  | .popBC => .pop .bc
  | .jpNZ_a16 a => .jpCond .nz a
  | .jp_a16 a => .jp a
  | .callNZ_a16 a => .callCond .nz a
  | .pushBC => .push .bc
  | .addA_n8 v => .aluImm .add v
  | .rst00 => .rst 0
  | .retZ => .retCond .z
  | .ret => .ret
  | .jpZ_a16 a => .jpCond .z a
  | .prefixCb => .prefixCb
  | .callZ_a16 a => .callCond .z a
  | .call_a16 a => .call a
  | .adcA_n8 v => .aluImm .adc v
  | .rst08 => .rst 1
  | .retNC => .retCond .nc
  | .popDE => .pop .de
  | .jpNC_a16 a => .jpCond .nc a
  | .illegalD3 => .illegal 0xD3
  | .callNC_a16 a => .callCond .nc a
  | .pushDE => .push .de
  | .sub_n8 v => .aluImm .sub v
  | .rst10 => .rst 2
  | .retC => .retCond .c
  | .reti => .reti
  | .jpC_a16 a => .jpCond .c a
  | .illegalDB => .illegal 0xDB
  | .callC_a16 a => .callCond .c a
  | .illegalDD => .illegal 0xDD
  | .sbcA_n8 v => .aluImm .sbc v
  | .rst18 => .rst 3
  | .ldhN8m_A n => .storeHigh n
  | .popHL => .pop .hl
  | .ldCm_A => .storeHighC
  | .illegalE3 => .illegal 0xE3
  | .illegalE4 => .illegal 0xE4
  | .pushHL => .push .hl
  | .and_n8 v => .aluImm .and v
  | .rst20 => .rst 4
  | .addSP_e8 e => .addSp e
  | .jpHL => .jpHl
  | .ldA16m_A a => .storeAbs a
  | .illegalEB => .illegal 0xEB
  | .illegalEC => .illegal 0xEC
  | .illegalED => .illegal 0xED
  | .xor_n8 v => .aluImm .xor v
  | .rst28 => .rst 5
  | .ldhA_N8m n => .loadHigh n
  | .popAF => .pop .af
  | .ldA_Cm => .loadHighC
  | .di => .di
  | .illegalF4 => .illegal 0xF4
  | .pushAF => .push .af
  | .or_n8 v => .aluImm .or v
  | .rst30 => .rst 6
  | .ldHL_SPe8 e => .ldHlSp e
  | .ldSP_HL => .ldSpHl
  | .ldA_A16m a => .loadAbs a
  | .ei => .ei
  | .illegalFC => .illegal 0xFC
  | .illegalFD => .illegal 0xFD
  | .cp_n8 v => .aluImm .cp v
  | .rst38 => .rst 7
  | .rlc_B => .rot .rlc .b
  | .rlc_C => .rot .rlc .c
  | .rlc_D => .rot .rlc .d
  | .rlc_E => .rot .rlc .e
  | .rlc_H => .rot .rlc .h
  | .rlc_L => .rot .rlc .l
  | .rlc_HLm => .rot .rlc .hlm
  | .rlc_A => .rot .rlc .a
  | .rrc_B => .rot .rrc .b
  | .rrc_C => .rot .rrc .c
  | .rrc_D => .rot .rrc .d
  | .rrc_E => .rot .rrc .e
  | .rrc_H => .rot .rrc .h
  | .rrc_L => .rot .rrc .l
  | .rrc_HLm => .rot .rrc .hlm
  | .rrc_A => .rot .rrc .a
  | .rl_B => .rot .rl .b
  | .rl_C => .rot .rl .c
  | .rl_D => .rot .rl .d
  | .rl_E => .rot .rl .e
  | .rl_H => .rot .rl .h
  | .rl_L => .rot .rl .l
  | .rl_HLm => .rot .rl .hlm
  | .rl_A => .rot .rl .a
  | .rr_B => .rot .rr .b
  | .rr_C => .rot .rr .c
  | .rr_D => .rot .rr .d
  | .rr_E => .rot .rr .e
  | .rr_H => .rot .rr .h
  | .rr_L => .rot .rr .l
  | .rr_HLm => .rot .rr .hlm
  | .rr_A => .rot .rr .a
  | .sla_B => .rot .sla .b
  | .sla_C => .rot .sla .c
  | .sla_D => .rot .sla .d
  | .sla_E => .rot .sla .e
  | .sla_H => .rot .sla .h
  | .sla_L => .rot .sla .l
  | .sla_HLm => .rot .sla .hlm
  | .sla_A => .rot .sla .a
  | .sra_B => .rot .sra .b
  | .sra_C => .rot .sra .c
  | .sra_D => .rot .sra .d
  | .sra_E => .rot .sra .e
  | .sra_H => .rot .sra .h
  | .sra_L => .rot .sra .l
  | .sra_HLm => .rot .sra .hlm
  | .sra_A => .rot .sra .a
  | .swap_B => .rot .swap .b
  | .swap_C => .rot .swap .c
  | .swap_D => .rot .swap .d
  | .swap_E => .rot .swap .e
  | .swap_H => .rot .swap .h
  | .swap_L => .rot .swap .l
  | .swap_HLm => .rot .swap .hlm
  | .swap_A => .rot .swap .a
  | .srl_B => .rot .srl .b
  | .srl_C => .rot .srl .c
  | .srl_D => .rot .srl .d
  | .srl_E => .rot .srl .e
  | .srl_H => .rot .srl .h
  | .srl_L => .rot .srl .l
  | .srl_HLm => .rot .srl .hlm
  | .srl_A => .rot .srl .a
  | .bit0_B => .bit 0 .b
  | .bit0_C => .bit 0 .c
  | .bit0_D => .bit 0 .d
  | .bit0_E => .bit 0 .e
  | .bit0_H => .bit 0 .h
  | .bit0_L => .bit 0 .l
  | .bit0_HLm => .bit 0 .hlm
  | .bit0_A => .bit 0 .a
  | .bit1_B => .bit 1 .b
  | .bit1_C => .bit 1 .c
  | .bit1_D => .bit 1 .d
  | .bit1_E => .bit 1 .e
  | .bit1_H => .bit 1 .h
  | .bit1_L => .bit 1 .l
  | .bit1_HLm => .bit 1 .hlm
  | .bit1_A => .bit 1 .a
  | .bit2_B => .bit 2 .b
  | .bit2_C => .bit 2 .c
  | .bit2_D => .bit 2 .d
  | .bit2_E => .bit 2 .e
  | .bit2_H => .bit 2 .h
  | .bit2_L => .bit 2 .l
  | .bit2_HLm => .bit 2 .hlm
  | .bit2_A => .bit 2 .a
  | .bit3_B => .bit 3 .b
  | .bit3_C => .bit 3 .c
  | .bit3_D => .bit 3 .d
  | .bit3_E => .bit 3 .e
  | .bit3_H => .bit 3 .h
  | .bit3_L => .bit 3 .l
  | .bit3_HLm => .bit 3 .hlm
  | .bit3_A => .bit 3 .a
  | .bit4_B => .bit 4 .b
  | .bit4_C => .bit 4 .c
  | .bit4_D => .bit 4 .d
  | .bit4_E => .bit 4 .e
  | .bit4_H => .bit 4 .h
  | .bit4_L => .bit 4 .l
  | .bit4_HLm => .bit 4 .hlm
  | .bit4_A => .bit 4 .a
  | .bit5_B => .bit 5 .b
  | .bit5_C => .bit 5 .c
  | .bit5_D => .bit 5 .d
  | .bit5_E => .bit 5 .e
  | .bit5_H => .bit 5 .h
  | .bit5_L => .bit 5 .l
  | .bit5_HLm => .bit 5 .hlm
  | .bit5_A => .bit 5 .a
  | .bit6_B => .bit 6 .b
  | .bit6_C => .bit 6 .c
  | .bit6_D => .bit 6 .d
  | .bit6_E => .bit 6 .e
  | .bit6_H => .bit 6 .h
  | .bit6_L => .bit 6 .l
  | .bit6_HLm => .bit 6 .hlm
  | .bit6_A => .bit 6 .a
  | .bit7_B => .bit 7 .b
  | .bit7_C => .bit 7 .c
  | .bit7_D => .bit 7 .d
  | .bit7_E => .bit 7 .e
  | .bit7_H => .bit 7 .h
  | .bit7_L => .bit 7 .l
  | .bit7_HLm => .bit 7 .hlm
  | .bit7_A => .bit 7 .a
  | .res0_B => .res 0 .b
  | .res0_C => .res 0 .c
  | .res0_D => .res 0 .d
  | .res0_E => .res 0 .e
  | .res0_H => .res 0 .h
  | .res0_L => .res 0 .l
  | .res0_HLm => .res 0 .hlm
  | .res0_A => .res 0 .a
  | .res1_B => .res 1 .b
  | .res1_C => .res 1 .c
  | .res1_D => .res 1 .d
  | .res1_E => .res 1 .e
  | .res1_H => .res 1 .h
  | .res1_L => .res 1 .l
  | .res1_HLm => .res 1 .hlm
  | .res1_A => .res 1 .a
  | .res2_B => .res 2 .b
  | .res2_C => .res 2 .c
  | .res2_D => .res 2 .d
  | .res2_E => .res 2 .e
  | .res2_H => .res 2 .h
  | .res2_L => .res 2 .l
  | .res2_HLm => .res 2 .hlm
  | .res2_A => .res 2 .a
  | .res3_B => .res 3 .b
  | .res3_C => .res 3 .c
  | .res3_D => .res 3 .d
  | .res3_E => .res 3 .e
  | .res3_H => .res 3 .h
  | .res3_L => .res 3 .l
  | .res3_HLm => .res 3 .hlm
  | .res3_A => .res 3 .a
  | .res4_B => .res 4 .b
  | .res4_C => .res 4 .c
  | .res4_D => .res 4 .d
  | .res4_E => .res 4 .e
  | .res4_H => .res 4 .h
  | .res4_L => .res 4 .l
  | .res4_HLm => .res 4 .hlm
  | .res4_A => .res 4 .a
  | .res5_B => .res 5 .b
  | .res5_C => .res 5 .c
  | .res5_D => .res 5 .d
  | .res5_E => .res 5 .e
  | .res5_H => .res 5 .h
  | .res5_L => .res 5 .l
  | .res5_HLm => .res 5 .hlm
  | .res5_A => .res 5 .a
  | .res6_B => .res 6 .b
  | .res6_C => .res 6 .c
  | .res6_D => .res 6 .d
  | .res6_E => .res 6 .e
  | .res6_H => .res 6 .h
  | .res6_L => .res 6 .l
  | .res6_HLm => .res 6 .hlm
  | .res6_A => .res 6 .a
  | .res7_B => .res 7 .b
  | .res7_C => .res 7 .c
  | .res7_D => .res 7 .d
  | .res7_E => .res 7 .e
  | .res7_H => .res 7 .h
  | .res7_L => .res 7 .l
  | .res7_HLm => .res 7 .hlm
  | .res7_A => .res 7 .a
  | .set0_B => .set 0 .b
  | .set0_C => .set 0 .c
  | .set0_D => .set 0 .d
  | .set0_E => .set 0 .e
  | .set0_H => .set 0 .h
  | .set0_L => .set 0 .l
  | .set0_HLm => .set 0 .hlm
  | .set0_A => .set 0 .a
  | .set1_B => .set 1 .b
  | .set1_C => .set 1 .c
  | .set1_D => .set 1 .d
  | .set1_E => .set 1 .e
  | .set1_H => .set 1 .h
  | .set1_L => .set 1 .l
  | .set1_HLm => .set 1 .hlm
  | .set1_A => .set 1 .a
  | .set2_B => .set 2 .b
  | .set2_C => .set 2 .c
  | .set2_D => .set 2 .d
  | .set2_E => .set 2 .e
  | .set2_H => .set 2 .h
  | .set2_L => .set 2 .l
  | .set2_HLm => .set 2 .hlm
  | .set2_A => .set 2 .a
  | .set3_B => .set 3 .b
  | .set3_C => .set 3 .c
  | .set3_D => .set 3 .d
  | .set3_E => .set 3 .e
  | .set3_H => .set 3 .h
  | .set3_L => .set 3 .l
  | .set3_HLm => .set 3 .hlm
  | .set3_A => .set 3 .a
  | .set4_B => .set 4 .b
  | .set4_C => .set 4 .c
  | .set4_D => .set 4 .d
  | .set4_E => .set 4 .e
  | .set4_H => .set 4 .h
  | .set4_L => .set 4 .l
  | .set4_HLm => .set 4 .hlm
  | .set4_A => .set 4 .a
  | .set5_B => .set 5 .b
  | .set5_C => .set 5 .c
  | .set5_D => .set 5 .d
  | .set5_E => .set 5 .e
  | .set5_H => .set 5 .h
  | .set5_L => .set 5 .l
  | .set5_HLm => .set 5 .hlm
  | .set5_A => .set 5 .a
  | .set6_B => .set 6 .b
  | .set6_C => .set 6 .c
  | .set6_D => .set 6 .d
  | .set6_E => .set 6 .e
  | .set6_H => .set 6 .h
  | .set6_L => .set 6 .l
  | .set6_HLm => .set 6 .hlm
  | .set6_A => .set 6 .a
  | .set7_B => .set 7 .b
  | .set7_C => .set 7 .c
  | .set7_D => .set 7 .d
  | .set7_E => .set 7 .e
  | .set7_H => .set 7 .h
  | .set7_L => .set 7 .l
  | .set7_HLm => .set 7 .hlm
  | .set7_A => .set 7 .a

/-- Whether an instruction is a row of the CB page. -/
def Form.onCbPage : Form → Bool
  | .rot _ _ | .bit _ _ | .res _ _ | .set _ _ => true
  | _ => false

end Sys2Proof
end

