-- ==== Sys2Proof/WellFormed.lean ====
section
/-! DEFINITION. Well-formedness of an instruction as a whole instruction of a program. Operands carry their widths in their
types, so the one term `Instr` can write down that is no whole instruction is the prefix byte alone (R367: "the prefix and
its second byte are one instruction"). -/

namespace Sys2Proof

/-- A whole instruction: every row but the bare prefix cell, whose instruction is the CB-page row its second byte selects
(R161, R367). -/
def WellFormed (i : Instr) : Bool :=
  match i.form with
  | .prefixCb => false
  | _ => true

end Sys2Proof
end

