-- ==== Sys2Proof/Decode.lean ====
section
/-! DEFINITION. Decoding and encoding. The decoder is the pair of opcode maps of R158 (main page) and R160 (CB page), one list
per row of the map; it is total on byte lists and rejects by name. The encoder is written from the field formulas of R151 to
R155 and of each instruction's own rule, not from the maps, so that the two check one another. -/

namespace Sys2Proof

/-- Why a list of bytes is no instruction. -/
inductive DecodeError where
  | noBytes          -- there is no opcode byte
  | missingOperand   -- the opcode's operand bytes (R150) are not all there
  | offTheMap        -- no cell for the byte: never, the maps have 256 cells each (R161)
  deriving DecidableEq, Repr

/-- A cell of the main page: its instruction, and the operand bytes its format has (R150). -/
inductive Cell where
  | plain (i : Instr)             -- format `op`
  | skipOne (i : Instr)           -- STOP: one more byte belongs to it, and its value is ignored (R363)
  | imm8 (mk : Byte → Instr)      -- formats `op d8`, `op n8`, `op e8`
  | imm16 (mk : Word → Instr)     -- formats `op d16`, `op a16`

/-- Row 0x0_ of the main page (R158). -/
def mainRow0 : List Cell :=
  [.plain .nop, .imm16 .ldBC_d16, .plain .ldBCm_A, .plain .incBC,
   .plain .incB, .plain .decB, .imm8 .ldB_d8, .plain .rlca,
   .imm16 .ldA16m_SP, .plain .addHL_BC, .plain .ldA_BCm, .plain .decBC,
   .plain .incC, .plain .decC, .imm8 .ldC_d8, .plain .rrca]

/-- Row 0x1_ of the main page (R158). -/
def mainRow1 : List Cell :=
  [.skipOne .stop, .imm16 .ldDE_d16, .plain .ldDEm_A, .plain .incDE,
   .plain .incD, .plain .decD, .imm8 .ldD_d8, .plain .rla,
   .imm8 .jr_e8, .plain .addHL_DE, .plain .ldA_DEm, .plain .decDE,
   .plain .incE, .plain .decE, .imm8 .ldE_d8, .plain .rra]

/-- Row 0x2_ of the main page (R158). -/
def mainRow2 : List Cell :=
  [.imm8 .jrNZ_e8, .imm16 .ldHL_d16, .plain .ldHLinc_A, .plain .incHL,
   .plain .incH, .plain .decH, .imm8 .ldH_d8, .plain .daa,
   .imm8 .jrZ_e8, .plain .addHL_HL, .plain .ldA_HLinc, .plain .decHL,
   .plain .incL, .plain .decL, .imm8 .ldL_d8, .plain .cpl]

/-- Row 0x3_ of the main page (R158). -/
def mainRow3 : List Cell :=
  [.imm8 .jrNC_e8, .imm16 .ldSP_d16, .plain .ldHLdec_A, .plain .incSP,
   .plain .incHLm, .plain .decHLm, .imm8 .ldHLm_d8, .plain .scf,
   .imm8 .jrC_e8, .plain .addHL_SP, .plain .ldA_HLdec, .plain .decSP,
   .plain .incA, .plain .decA, .imm8 .ldA_d8, .plain .ccf]

/-- Row 0x4_ of the main page (R158). -/
def mainRow4 : List Cell :=
  [.plain .ldB_B, .plain .ldB_C, .plain .ldB_D, .plain .ldB_E,
   .plain .ldB_H, .plain .ldB_L, .plain .ldB_HLm, .plain .ldB_A,
   .plain .ldC_B, .plain .ldC_C, .plain .ldC_D, .plain .ldC_E,
   .plain .ldC_H, .plain .ldC_L, .plain .ldC_HLm, .plain .ldC_A]

/-- Row 0x5_ of the main page (R158). -/
def mainRow5 : List Cell :=
  [.plain .ldD_B, .plain .ldD_C, .plain .ldD_D, .plain .ldD_E,
   .plain .ldD_H, .plain .ldD_L, .plain .ldD_HLm, .plain .ldD_A,
   .plain .ldE_B, .plain .ldE_C, .plain .ldE_D, .plain .ldE_E,
   .plain .ldE_H, .plain .ldE_L, .plain .ldE_HLm, .plain .ldE_A]

/-- Row 0x6_ of the main page (R158). -/
def mainRow6 : List Cell :=
  [.plain .ldH_B, .plain .ldH_C, .plain .ldH_D, .plain .ldH_E,
   .plain .ldH_H, .plain .ldH_L, .plain .ldH_HLm, .plain .ldH_A,
   .plain .ldL_B, .plain .ldL_C, .plain .ldL_D, .plain .ldL_E,
   .plain .ldL_H, .plain .ldL_L, .plain .ldL_HLm, .plain .ldL_A]

/-- Row 0x7_ of the main page (R158). -/
def mainRow7 : List Cell :=
  [.plain .ldHLm_B, .plain .ldHLm_C, .plain .ldHLm_D, .plain .ldHLm_E,
   .plain .ldHLm_H, .plain .ldHLm_L, .plain .halt, .plain .ldHLm_A,
   .plain .ldA_B, .plain .ldA_C, .plain .ldA_D, .plain .ldA_E,
   .plain .ldA_H, .plain .ldA_L, .plain .ldA_HLm, .plain .ldA_A]

/-- Row 0x8_ of the main page (R158). -/
def mainRow8 : List Cell :=
  [.plain .addA_B, .plain .addA_C, .plain .addA_D, .plain .addA_E,
   .plain .addA_H, .plain .addA_L, .plain .addA_HLm, .plain .addA_A,
   .plain .adcA_B, .plain .adcA_C, .plain .adcA_D, .plain .adcA_E,
   .plain .adcA_H, .plain .adcA_L, .plain .adcA_HLm, .plain .adcA_A]

/-- Row 0x9_ of the main page (R158). -/
def mainRow9 : List Cell :=
  [.plain .sub_B, .plain .sub_C, .plain .sub_D, .plain .sub_E,
   .plain .sub_H, .plain .sub_L, .plain .sub_HLm, .plain .sub_A,
   .plain .sbcA_B, .plain .sbcA_C, .plain .sbcA_D, .plain .sbcA_E,
   .plain .sbcA_H, .plain .sbcA_L, .plain .sbcA_HLm, .plain .sbcA_A]

/-- Row 0xA_ of the main page (R158). -/
def mainRowA : List Cell :=
  [.plain .and_B, .plain .and_C, .plain .and_D, .plain .and_E,
   .plain .and_H, .plain .and_L, .plain .and_HLm, .plain .and_A,
   .plain .xor_B, .plain .xor_C, .plain .xor_D, .plain .xor_E,
   .plain .xor_H, .plain .xor_L, .plain .xor_HLm, .plain .xor_A]

/-- Row 0xB_ of the main page (R158). -/
def mainRowB : List Cell :=
  [.plain .or_B, .plain .or_C, .plain .or_D, .plain .or_E,
   .plain .or_H, .plain .or_L, .plain .or_HLm, .plain .or_A,
   .plain .cp_B, .plain .cp_C, .plain .cp_D, .plain .cp_E,
   .plain .cp_H, .plain .cp_L, .plain .cp_HLm, .plain .cp_A]

/-- Row 0xC_ of the main page (R158). -/
def mainRowC : List Cell :=
  [.plain .retNZ, .plain .popBC, .imm16 .jpNZ_a16, .imm16 .jp_a16,
   .imm16 .callNZ_a16, .plain .pushBC, .imm8 .addA_n8, .plain .rst00,
   .plain .retZ, .plain .ret, .imm16 .jpZ_a16, .plain .prefixCb,
   .imm16 .callZ_a16, .imm16 .call_a16, .imm8 .adcA_n8, .plain .rst08]

/-- Row 0xD_ of the main page (R158). -/
def mainRowD : List Cell :=
  [.plain .retNC, .plain .popDE, .imm16 .jpNC_a16, .plain .illegalD3,
   .imm16 .callNC_a16, .plain .pushDE, .imm8 .sub_n8, .plain .rst10,
   .plain .retC, .plain .reti, .imm16 .jpC_a16, .plain .illegalDB,
   .imm16 .callC_a16, .plain .illegalDD, .imm8 .sbcA_n8, .plain .rst18]

/-- Row 0xE_ of the main page (R158). -/
def mainRowE : List Cell :=
  [.imm8 .ldhN8m_A, .plain .popHL, .plain .ldCm_A, .plain .illegalE3,
   .plain .illegalE4, .plain .pushHL, .imm8 .and_n8, .plain .rst20,
   .imm8 .addSP_e8, .plain .jpHL, .imm16 .ldA16m_A, .plain .illegalEB,
   .plain .illegalEC, .plain .illegalED, .imm8 .xor_n8, .plain .rst28]

/-- Row 0xF_ of the main page (R158). -/
def mainRowF : List Cell :=
  [.imm8 .ldhA_N8m, .plain .popAF, .plain .ldA_Cm, .plain .di,
   .plain .illegalF4, .plain .pushAF, .imm8 .or_n8, .plain .rst30,
   .imm8 .ldHL_SPe8, .plain .ldSP_HL, .imm16 .ldA_A16m, .plain .ei,
   .plain .illegalFC, .plain .illegalFD, .imm8 .cp_n8, .plain .rst38]

/-- The rows of the main page by their high nibble (R158). -/
def mainRow : Nat → List Cell
  | 0x0 => mainRow0 | 0x1 => mainRow1 | 0x2 => mainRow2 | 0x3 => mainRow3
  | 0x4 => mainRow4 | 0x5 => mainRow5 | 0x6 => mainRow6 | 0x7 => mainRow7
  | 0x8 => mainRow8 | 0x9 => mainRow9 | 0xA => mainRowA | 0xB => mainRowB
  | 0xC => mainRowC | 0xD => mainRowD | 0xE => mainRowE | 0xF => mainRowF
  | _ => []

/-- The cell `0x<row><column>` that an opcode byte selects on the main page (R158). -/
def mainCell (op : Byte) : Option Cell := (mainRow (op.toNat / 16))[op.toNat % 16]?

/-- Row 0x0_ of the CB page (R160). -/
def cbRow0 : List Instr :=
  [.rlc_B, .rlc_C, .rlc_D, .rlc_E,
   .rlc_H, .rlc_L, .rlc_HLm, .rlc_A,
   .rrc_B, .rrc_C, .rrc_D, .rrc_E,
   .rrc_H, .rrc_L, .rrc_HLm, .rrc_A]

/-- Row 0x1_ of the CB page (R160). -/
def cbRow1 : List Instr :=
  [.rl_B, .rl_C, .rl_D, .rl_E,
   .rl_H, .rl_L, .rl_HLm, .rl_A,
   .rr_B, .rr_C, .rr_D, .rr_E,
   .rr_H, .rr_L, .rr_HLm, .rr_A]

/-- Row 0x2_ of the CB page (R160). -/
def cbRow2 : List Instr :=
  [.sla_B, .sla_C, .sla_D, .sla_E,
   .sla_H, .sla_L, .sla_HLm, .sla_A,
   .sra_B, .sra_C, .sra_D, .sra_E,
   .sra_H, .sra_L, .sra_HLm, .sra_A]

/-- Row 0x3_ of the CB page (R160). -/
def cbRow3 : List Instr :=
  [.swap_B, .swap_C, .swap_D, .swap_E,
   .swap_H, .swap_L, .swap_HLm, .swap_A,
   .srl_B, .srl_C, .srl_D, .srl_E,
   .srl_H, .srl_L, .srl_HLm, .srl_A]

/-- Row 0x4_ of the CB page (R160). -/
def cbRow4 : List Instr :=
  [.bit0_B, .bit0_C, .bit0_D, .bit0_E,
   .bit0_H, .bit0_L, .bit0_HLm, .bit0_A,
   .bit1_B, .bit1_C, .bit1_D, .bit1_E,
   .bit1_H, .bit1_L, .bit1_HLm, .bit1_A]

/-- Row 0x5_ of the CB page (R160). -/
def cbRow5 : List Instr :=
  [.bit2_B, .bit2_C, .bit2_D, .bit2_E,
   .bit2_H, .bit2_L, .bit2_HLm, .bit2_A,
   .bit3_B, .bit3_C, .bit3_D, .bit3_E,
   .bit3_H, .bit3_L, .bit3_HLm, .bit3_A]

/-- Row 0x6_ of the CB page (R160). -/
def cbRow6 : List Instr :=
  [.bit4_B, .bit4_C, .bit4_D, .bit4_E,
   .bit4_H, .bit4_L, .bit4_HLm, .bit4_A,
   .bit5_B, .bit5_C, .bit5_D, .bit5_E,
   .bit5_H, .bit5_L, .bit5_HLm, .bit5_A]

/-- Row 0x7_ of the CB page (R160). -/
def cbRow7 : List Instr :=
  [.bit6_B, .bit6_C, .bit6_D, .bit6_E,
   .bit6_H, .bit6_L, .bit6_HLm, .bit6_A,
   .bit7_B, .bit7_C, .bit7_D, .bit7_E,
   .bit7_H, .bit7_L, .bit7_HLm, .bit7_A]

/-- Row 0x8_ of the CB page (R160). -/
def cbRow8 : List Instr :=
  [.res0_B, .res0_C, .res0_D, .res0_E,
   .res0_H, .res0_L, .res0_HLm, .res0_A,
   .res1_B, .res1_C, .res1_D, .res1_E,
   .res1_H, .res1_L, .res1_HLm, .res1_A]

/-- Row 0x9_ of the CB page (R160). -/
def cbRow9 : List Instr :=
  [.res2_B, .res2_C, .res2_D, .res2_E,
   .res2_H, .res2_L, .res2_HLm, .res2_A,
   .res3_B, .res3_C, .res3_D, .res3_E,
   .res3_H, .res3_L, .res3_HLm, .res3_A]

/-- Row 0xA_ of the CB page (R160). -/
def cbRowA : List Instr :=
  [.res4_B, .res4_C, .res4_D, .res4_E,
   .res4_H, .res4_L, .res4_HLm, .res4_A,
   .res5_B, .res5_C, .res5_D, .res5_E,
   .res5_H, .res5_L, .res5_HLm, .res5_A]

/-- Row 0xB_ of the CB page (R160). -/
def cbRowB : List Instr :=
  [.res6_B, .res6_C, .res6_D, .res6_E,
   .res6_H, .res6_L, .res6_HLm, .res6_A,
   .res7_B, .res7_C, .res7_D, .res7_E,
   .res7_H, .res7_L, .res7_HLm, .res7_A]

/-- Row 0xC_ of the CB page (R160). -/
def cbRowC : List Instr :=
  [.set0_B, .set0_C, .set0_D, .set0_E,
   .set0_H, .set0_L, .set0_HLm, .set0_A,
   .set1_B, .set1_C, .set1_D, .set1_E,
   .set1_H, .set1_L, .set1_HLm, .set1_A]

/-- Row 0xD_ of the CB page (R160). -/
def cbRowD : List Instr :=
  [.set2_B, .set2_C, .set2_D, .set2_E,
   .set2_H, .set2_L, .set2_HLm, .set2_A,
   .set3_B, .set3_C, .set3_D, .set3_E,
   .set3_H, .set3_L, .set3_HLm, .set3_A]

/-- Row 0xE_ of the CB page (R160). -/
def cbRowE : List Instr :=
  [.set4_B, .set4_C, .set4_D, .set4_E,
   .set4_H, .set4_L, .set4_HLm, .set4_A,
   .set5_B, .set5_C, .set5_D, .set5_E,
   .set5_H, .set5_L, .set5_HLm, .set5_A]

/-- Row 0xF_ of the CB page (R160). -/
def cbRowF : List Instr :=
  [.set6_B, .set6_C, .set6_D, .set6_E,
   .set6_H, .set6_L, .set6_HLm, .set6_A,
   .set7_B, .set7_C, .set7_D, .set7_E,
   .set7_H, .set7_L, .set7_HLm, .set7_A]

/-- The rows of the CB page by their high nibble (R160). -/
def cbRow : Nat → List Instr
  | 0x0 => cbRow0 | 0x1 => cbRow1 | 0x2 => cbRow2 | 0x3 => cbRow3
  | 0x4 => cbRow4 | 0x5 => cbRow5 | 0x6 => cbRow6 | 0x7 => cbRow7
  | 0x8 => cbRow8 | 0x9 => cbRow9 | 0xA => cbRowA | 0xB => cbRowB
  | 0xC => cbRowC | 0xD => cbRowD | 0xE => cbRowE | 0xF => cbRowF
  | _ => []

/-- The cell that a second byte selects on the CB page (R160). -/
def cbCell (cbop : Byte) : Option Instr := (cbRow (cbop.toNat / 16))[cbop.toNat % 16]?

/-- The prefix byte (R161). -/
def prefixByte : Byte := 0xCB

/-- A 16-bit operand from its two bytes, low byte first (R156, R115). -/
def wordOfBytes (lo hi : Byte) : Word := hi ++ lo

/-- Decoding after the prefix byte: the CB-page cell of the next byte, or, with no byte after it, the bare prefix cell of the
main page (R161, R367). -/
def decodeCb : List Byte → Except DecodeError (Instr × List Byte)
  | [] => .ok (.prefixCb, [])
  | cbop :: rest =>
    match cbCell cbop with
    | some i => .ok (i, rest)
    | none => .error .offTheMap

/-- The decoder (R161): the instruction at the head of a list of bytes, and the bytes after it. -/
def decode : List Byte → Except DecodeError (Instr × List Byte)
  | [] => .error .noBytes
  | op :: rest =>
    if op = prefixByte then decodeCb rest else
    match mainCell op with
    | none => .error .offTheMap
    | some (.plain i) => .ok (i, rest)
    | some (.skipOne i) => .ok (i, rest.drop 1)
    | some (.imm8 mk) =>
      match rest with
      | v :: rest' => .ok (mk v, rest')
      | [] => .error .missingOperand
    | some (.imm16 mk) =>
      match rest with
      | lo :: hi :: rest' => .ok (mk (wordOfBytes lo hi), rest')
      | _ => .error .missingOperand

/-- How many bytes the step fetches after the opcode byte (R360, R156, R367). STOP fetches none: the byte it skips is not
read (R363). -/
def operandBytes (op : Byte) : Nat :=
  if op = prefixByte then 1 else
  match mainCell op with
  | some (.imm8 _) => 1
  | some (.imm16 _) => 2
  | _ => 0

/-- The length of an instruction, a function of its first byte alone (R150). -/
def lengthOf (op : Byte) : Nat :=
  match mainCell op with
  | some (.skipOne _) => 2
  | _ => 1 + operandBytes op

/-! ### Encoding -/

/-- The register index of R36. -/
def R8.index : R8 → BitVec 3
  | .b => 0 | .c => 1 | .d => 2 | .e => 3 | .h => 4 | .l => 5 | .hlm => 6 | .a => 7

/-- The pair index of table `rp` (R37). -/
def Rp.index : Rp → BitVec 2
  | .bc => 0 | .de => 1 | .hl => 2 | .sp => 3

/-- The pair index of table `rp2` (R37). -/
def Rp2.index : Rp2 → BitVec 2
  | .bc => 0 | .de => 1 | .hl => 2 | .af => 3

/-- The condition index (R154). -/
def Cond.index : Cond → BitVec 2
  | .nz => 0 | .z => 1 | .nc => 2 | .c => 3

/-- The ALU-operation field (R153). -/
def AluOp.index : AluOp → BitVec 3
  | .add => 0 | .adc => 1 | .sub => 2 | .sbc => 3 | .and => 4 | .xor => 5 | .or => 6 | .cp => 7

/-- The operation field of the CB page's rows 0x0_ to 0x3_ (R400 to R408). -/
def RotOp.index : RotOp → BitVec 3
  | .rlc => 0 | .rrc => 1 | .rl => 2 | .rr => 3 | .sla => 4 | .sra => 5 | .swap => 6 | .srl => 7

/-- The low and the high byte of a 16-bit operand. -/
def loByte (v : Word) : Byte := v.extractLsb' 0 8

/-- See `loByte`. -/
def hiByte (v : Word) : Byte := v.extractLsb' 8 8

/-- An opcode byte from its fields `x = op[7:6]`, `y = op[5:3]`, `z = op[2:0]` (R151). -/
def byteXYZ (x : BitVec 2) (y z : BitVec 3) : Byte := x ++ y ++ z

/-- An opcode byte from `x = op[7:6]`, `p = op[5:4]` and the low nibble (R151). -/
def byteXP (x p : BitVec 2) (low : BitVec 4) : Byte := x ++ p ++ low

/-- An opcode byte from its top three bits, `cc = op[4:3]` and `z` (R154). -/
def byteCc (top : BitVec 3) (cc : BitVec 2) (z : BitVec 3) : Byte := top ++ cc ++ z

/-- The operand bytes of a 16-bit immediate, low byte first (R156). -/
def imm16Bytes (v : Word) : List Byte := [loByte v, hiByte v]

/-- The bytes of an instruction, from the encoding line of its rule. -/
def Form.encode : Form → List Byte
  | .ld dst src => [byteXYZ 1 dst.index src.index]
  | .ldImm dst v => [byteXYZ 0 dst.index 6, v]
  | .ldPairImm p v => byteXP 0 p.index 0x1 :: imm16Bytes v
  | .storeInd .bc => [0x02]
  | .storeInd .de => [0x12]
  | .storeInd .hlInc => [0x22]
  | .storeInd .hlDec => [0x32]
  | .loadInd .bc => [0x0A]
  | .loadInd .de => [0x1A]
  | .loadInd .hlInc => [0x2A]
  | .loadInd .hlDec => [0x3A]
  | .pop p => [byteXP 3 p.index 0x1]
  | .push p => [byteXP 3 p.index 0x5]
  | .storeAbs a => 0xEA :: imm16Bytes a
  | .loadAbs a => 0xFA :: imm16Bytes a
  | .storeHigh n => [0xE0, n]
  | .loadHigh n => [0xF0, n]
  | .storeHighC => [0xE2]
  | .loadHighC => [0xF2]
  | .storeSp a => 0x08 :: imm16Bytes a
  | .ldSpHl => [0xF9]
  | .aluReg op r => [byteXYZ 2 op.index r.index]
  | .aluImm op v => [byteXYZ 3 op.index 6, v]
  | .incReg r => [byteXYZ 0 r.index 4]
  | .decReg r => [byteXYZ 0 r.index 5]
  | .daa => [0x27]
  | .cpl => [0x2F]
  | .scf => [0x37]
  | .ccf => [0x3F]
  | .rlca => [0x07]
  | .rrca => [0x0F]
  | .rla => [0x17]
  | .rra => [0x1F]
  | .incPair p => [byteXP 0 p.index 0x3]
  | .decPair p => [byteXP 0 p.index 0xB]
  | .addHl p => [byteXP 0 p.index 0x9]
  | .addSp e => [0xE8, e]
  | .ldHlSp e => [0xF8, e]
  | .jp a => 0xC3 :: imm16Bytes a
  | .jpCond cc a => byteCc 6 cc.index 2 :: imm16Bytes a
  | .jpHl => [0xE9]
  | .jr e => [0x18, e]
  | .jrCond cc e => [byteCc 1 cc.index 0, e]
  | .call a => 0xCD :: imm16Bytes a
  | .callCond cc a => byteCc 6 cc.index 4 :: imm16Bytes a
  | .ret => [0xC9]
  | .retCond cc => [byteCc 6 cc.index 0]
  | .reti => [0xD9]
  | .rst y => [byteXYZ 3 y 7]
  | .nop => [0x00]
  | .halt => [0x76]
  | .stop => [0x10, 0x00]
  | .di => [0xF3]
  | .ei => [0xFB]
  | .illegal op => [op]
  | .prefixCb => [prefixByte]
  | .rot op r => [prefixByte, byteXYZ 0 op.index r.index]
  | .bit b r => [prefixByte, byteXYZ 1 b r.index]
  | .res b r => [prefixByte, byteXYZ 2 b r.index]
  | .set b r => [prefixByte, byteXYZ 3 b r.index]

/-- The encoder. The byte STOP skips is written 0x00 (R363: "conventionally 0x00"). -/
def encode (i : Instr) : List Byte := i.form.encode

/-! ### The words of spec/opcode_table.json -/

/-- Byte `k` of a number, counted from the least significant. -/
def byteOf (w k : Nat) : Byte := BitVec.ofNat 8 (w >>> (8 * k))

/-- The bytes of a table word in the order the hardware stores them, with no operand bytes after them. The table writes a
main-page row as its opcode byte and a CB-page row as 0xCB then the second byte, "the first byte most significant"
(notes/assumptions/5.md). A wider word counts its bytes from the least significant. -/
def tableBytes (nbits w : Nat) : List Byte :=
  if nbits ≤ 8 then [byteOf w 0]
  else if nbits ≤ 16 then
    if byteOf w 1 = prefixByte then [byteOf w 1, byteOf w 0] else [byteOf w 0, byteOf w 1]
  else [byteOf w 0, byteOf w 1, byteOf w 2]

/-- The three bytes (the longest instruction, R150) that a table word stands for, its operand bytes zero. -/
def tableImage (nbits w : Nat) : List Byte :=
  (tableBytes nbits w ++ [0, 0, 0]).take 3

/-- The instruction the decoder reads from a table word. The row PREFIX CB is the prefix byte alone: its second byte belongs
to the row it selects, so the decoder is handed the one byte (notes/assumptions/5.md). -/
def decodeTableWord (nbits w : Nat) : Option Instr :=
  let bytes := if tableBytes nbits w = [prefixByte] then [prefixByte] else tableImage nbits w
  match decode bytes with
  | .ok (i, _) => some i
  | .error _ => none

end Sys2Proof
end

