-- ==== Sys2Proof/Machine/Flags.lean ====
section
/-! DEFINITION. The flag register (R31) and every flag computation the spec gives: carries and borrows out of bit 3, bit 7,
bit 11 and bit 15, computed as comparisons on unbounded numbers before truncation (R12). -/

namespace Sys2Proof.Machine

/-- The Z flag, bit 7 of F (R31). -/
def flagZ (s : State) : Bool := s.cpu.f.getLsbD 7

/-- The N flag, bit 6 of F (R31). -/
def flagN (s : State) : Bool := s.cpu.f.getLsbD 6

/-- The H flag, bit 5 of F (R31). -/
def flagH (s : State) : Bool := s.cpu.f.getLsbD 5

/-- The C flag, bit 4 of F (R31). -/
def flagC (s : State) : Bool := s.cpu.f.getLsbD 4

/-- The flag byte with the four given flags, its low nibble zero (R13, R31). -/
def flagByte (z n h c : Bool) : Byte :=
  (if z then 0x80 else 0x00) ||| (if n then 0x40 else 0x00) ||| (if h then 0x20 else 0x00) ||| (if c then 0x10 else 0x00)

/-- `flags(Z, N, H, C)` of R13: `none` is the `-` that keeps the current bit. -/
def setFlags (z n h c : Option Bool) (s : State) : State :=
  { s with cpu := { s.cpu with
      f := flagByte (z.getD (flagZ s)) (n.getD (flagN s)) (h.getD (flagH s)) (c.getD (flagC s)) } }

/-- A Boolean as the number it stands for (R12). -/
def bitNat (b : Bool) : Nat := if b then 1 else 0

/-- The low nibble of a byte as a number. -/
def lowNibble (v : Byte) : Nat := (v &&& 0x0F).toNat

/-- Carry out of bit 3 of `a + v + c` (R251, R252, R259). -/
def halfCarryAdd (a v : Byte) (c : Nat) : Bool := decide (lowNibble a + lowNibble v + c > 0x0F)

/-- Carry out of bit 7 of `a + v + c` (R251, R252). -/
def carryAdd (a v : Byte) (c : Nat) : Bool := decide (a.toNat + v.toNat + c > 0xFF)

/-- Borrow from bit 4 of `a - v - c` (R253, R254). -/
def halfBorrowSub (a v : Byte) (c : Nat) : Bool := decide (lowNibble a < lowNibble v + c)

/-- Borrow of `a - v - c` (R253, R254). -/
def borrowSub (a v : Byte) (c : Nat) : Bool := decide (a.toNat < v.toNat + c)

/-- Carry out of bit 11 of a 16-bit sum (R302). -/
def halfCarryAdd16 (a v : Word) : Bool := decide ((a &&& 0x0FFF).toNat + (v &&& 0x0FFF).toNat > 0x0FFF)

/-- Carry out of bit 15 of a 16-bit sum (R302). -/
def carryAdd16 (a v : Word) : Bool := decide (a.toNat + v.toNat > 0xFFFF)

/-- Carry out of bit 3 of SP plus the raw displacement byte (R303, R304). -/
def halfCarrySp (sp : Word) (e : Byte) : Bool := decide ((sp &&& 0x0F).toNat + lowNibble e > 0x0F)

/-- Carry out of bit 7 of SP plus the raw displacement byte: "8-bit carry semantics" (R303, R304). -/
def carrySp (sp : Word) (e : Byte) : Bool := decide ((sp &&& 0xFF).toNat + e.toNat > 0xFF)

end Sys2Proof.Machine
end

