-- ==== Sys2Proof/Machine/Joypad.lean ====
section
/-! DEFINITION. The joypad matrix (60_exceptions.md section 6). -/

namespace Sys2Proof.Machine

/-- The P1 projection (R480): what a read of 0xFF00 returns, from the stored slot and the pressed mask. Selection bits are
active low; both groups may be selected. -/
def joypRead (slot mask : Byte) : Byte :=
  let nibble : Byte := 0x0F
  let nibble := if slot.getLsbD 4 then nibble else nibble &&& ~~~((mask >>> 4) &&& 0x0F)
  let nibble := if slot.getLsbD 5 then nibble else nibble &&& ~~~(mask &&& 0x0F)
  0xC0 ||| (slot &&& 0x30) ||| (nibble &&& 0x0F)

/-- `update_register()` (R482): store the projection in P1's slot, on the privileged path. No read tells it. -/
def updateRegister (s : State) : State :=
  setSlot slotP1 (joypRead (slot s slotP1) s.pressedMask) s

/-- A mask with one bit set to a Boolean. -/
def putBit (mask : Byte) (k : Nat) (on : Bool) : Byte :=
  if on then mask ||| (1#8 <<< k) else mask &&& ~~~(1#8 <<< k)

/-- `set_button(button, pressed)` (R481): the host presses or releases one of the eight buttons. It posts no interrupt. -/
def setButton (button : Fin 8) (pressed : Bool) (s : State) : State :=
  updateRegister { s with pressedMask := putBit s.pressedMask button.val pressed }

/-- The joypad's reset (R526). -/
def joypadReset (s : State) : State :=
  setSlot slotP1 0xFF { s with pressedMask := 0x00 }

end Sys2Proof.Machine
end

