-- ==== Sys2Proof/Machine/Mmu.lean ====
section
/-! DEFINITION. The memory management unit (20_memory.md): the address map, MBC1, the bank selectors, OAM DMA, and
`MemRead` and `MemWrite` for every 16-bit address. No access faults (R130). -/

namespace Sys2Proof.Machine

/-- Sizes of the banks and arrays (R10). -/
def romBankSize : Nat := 0x4000
@[inherit_doc romBankSize] def ramBankSize : Nat := 0x2000
@[inherit_doc romBankSize] def vramBankSize : Nat := 0x2000
@[inherit_doc romBankSize] def wramBankSize : Nat := 0x1000
@[inherit_doc romBankSize] def oamSize : Nat := 160
@[inherit_doc romBankSize] def ioSize : Nat := 128
@[inherit_doc romBankSize] def hramSize : Nat := 127

/-- What a read of a forbidden range yields (R130). -/
def openBus : Byte := 0xFF

/-- Where an address leads: a byte of one of the arrays (by its index there), or a range with no storage (R81). -/
inductive Place where
  | rom (index : Nat)    -- cartridge ROM; the index may lie past the image (R82, R84)
  | vram (index : Nat)
  | eram (index : Nat)
  | noEram               -- external RAM absent or disabled (R86)
  | wram (index : Nat)
  | oam (index : Nat)
  | unusable             -- 0xFEA0 to 0xFEFF (R91)
  | io (slot : Nat)
  | hram (index : Nat)
  | ie
  deriving DecidableEq, Repr

/-- The effective switchable ROM bank, with the zero-to-one substitution after the modulo (R83, C1). -/
def effRomBank (s : State) : Nat :=
  let combined := (s.mmu.romBankHigh ++ s.mmu.romBankLow).toNat
  let bank := combined % s.cart.numRomBanks
  if bank = 0 ∧ s.cart.numRomBanks > 1 then 1 else bank

/-- The effective RAM bank (R87). -/
def effRamBank (s : State) : Nat :=
  if s.mmu.bankingMode = 0 ∨ s.cart.numRamBanks = 0 then 0
  else s.mmu.romBankHigh.toNat % s.cart.numRamBanks

/-- Whether external RAM answers (R86, R98). -/
def eramAnswers (s : State) : Bool :=
  s.cart.numRamBanks > 0 && s.mmu.ramEnabled

/-- The place of offset `o` (0 to 0x1FFF) of the work-RAM window: bank 0, then the selected bank (R88). -/
def wramPlace (s : State) (o : Nat) : Place :=
  if o < wramBankSize then .wram o
  else .wram (s.mmu.wramBank.toNat * wramBankSize + (o - wramBankSize))

/-- The address map (R81). The echo range leads where the address 0x2000 below leads (R89). -/
def locate (s : State) (addr : Word) : Place :=
  let n := addr.toNat
  if n < 0x4000 then .rom n
  else if n < 0x8000 then .rom (effRomBank s * romBankSize + (n - 0x4000))
  else if n < 0xA000 then .vram (s.mmu.vramBank.toNat * vramBankSize + (n - 0x8000))
  else if n < 0xC000 then
    if eramAnswers s then .eram (effRamBank s * ramBankSize + (n - 0xA000)) else .noEram
  else if n < 0xE000 then wramPlace s (n - 0xC000)
  else if n < 0xFE00 then wramPlace s (n - 0xE000)
  else if n < 0xFEA0 then .oam (n - 0xFE00)
  else if n < 0xFF00 then .unusable
  else if n < 0xFF80 then .io (n - 0xFF00)
  else if n < 0xFFFF then .hram (n - 0xFF80)
  else .ie

/-! ### Reads -/

/-- A read of an I/O slot with the overlays of R92: P1, VBK and SVBK are computed, every other slot is raw. -/
def ioRead (s : State) (k : Nat) : Byte :=
  if k = slotP1 then joypRead (slot s slotP1) s.pressedMask
  else if k = slotVbk then 0xFE ||| s.mmu.vramBank.setWidth 8
  else if k = slotSvbk then 0xF8 ||| s.mmu.wramBank.setWidth 8
  else slot s k

/-- The byte at a place (R82 to R94). -/
def readPlace (s : State) : Place → Byte
  | .rom i => if i < s.cart.romSize then s.cart.rom.byteAt i else openBus
  | .vram i => s.mmu.vram.byteAt i
  | .eram i => s.mmu.eram.byteAt i
  | .noEram => openBus
  | .wram i => s.mmu.wram.byteAt i
  | .oam i => s.mmu.oam.byteAt i
  | .unusable => openBus
  | .io k => ioRead s k
  | .hram i => s.mmu.hram.byteAt i
  | .ie => s.mmu.ie

/-- The byte `MemRead(addr, 1)` returns (R81). -/
def readByte (s : State) (addr : Word) : Byte := readPlace s (locate s addr)

/-- The diagnostic record of a read: one when it lies past the image, else none (R82, R84, R372). -/
def readDiag (s : State) (addr : Word) : List Diag :=
  match locate s addr with
  | .rom i => if i < s.cart.romSize then [] else [⟨.readPastRom, addr, openBus⟩]
  | _ => []

/-- The state after a read: only the diagnostic output may have grown (R118). -/
def afterRead (s : State) (addr : Word) : State := emit (readDiag s addr) s

/-- `MemRead(addr, 1)`: the byte, and the state after it (R13, R81). -/
def memRead (s : State) (addr : Word) : Byte × State := (readByte s addr, afterRead s addr)

/-! ### Writes -/

/-- Whether the cartridge has an MBC1 (R95). -/
def hasMbc1 (s : State) : Bool :=
  s.cart.cartType == 0x01 || s.cart.cartType == 0x02 || s.cart.cartType == 0x03

/-- A selector value with 0 raised to 1 (R41, R42). -/
def nonzero {w : Nat} (v : BitVec w) : BitVec w := if v = 0 then 1 else v

/-- A write to 0x0000–0x7FFF: it sets one MBC1 selector, or nothing without MBC1, and never changes the image (R95, R96). -/
def cartControl (addr : Word) (v : Byte) (s : State) : State :=
  if hasMbc1 s then
    if addr.toNat < 0x2000 then { s with mmu := { s.mmu with ramEnabled := v &&& 0x0F == 0x0A } }
    else if addr.toNat < 0x4000 then { s with mmu := { s.mmu with romBankLow := nonzero (v.extractLsb' 0 5) } }
    else if addr.toNat < 0x6000 then { s with mmu := { s.mmu with romBankHigh := v.extractLsb' 0 2 } }
    else { s with mmu := { s.mmu with bankingMode := v.extractLsb' 0 1 } }
  else s

/-- Store a byte of OAM. -/
def setOam (i : Nat) (v : Byte) (s : State) : State :=
  { s with mmu := { s.mmu with oam := s.mmu.oam.store i v } }

/-- The source address of byte `i` of the DMA copy: `(v << 8) + i` (R112). -/
def dmaSource (v : Byte) (i : Nat) : Word := BitVec.ofNat 16 (v.toNat * 256 + i)

/-- One byte of the DMA copy: a read by the normal read path, then the store into OAM (R112). -/
def dmaByte (v : Byte) (i : Nat) (s : State) : State :=
  let (b, s1) := memRead s (dmaSource v i)
  setOam i b s1

/-- `n` bytes of the DMA copy from byte `i` on, in increasing order (R112). -/
def dmaCopy (v : Byte) : Nat → Nat → State → State
  | 0, _, s => s
  | n + 1, i, s => dmaCopy v n (i + 1) (dmaByte v i s)

/-- A write to an I/O slot (R103): DIV is zeroed whatever is written (R113), DMA copies before its slot is stored (R112), VBK
and SVBK set their selectors (R110, R111), every other slot stores the byte. -/
def ioWrite (k : Nat) (v : Byte) (s : State) : State :=
  if k = slotDiv then setSlot slotDiv 0x00 s
  else if k = slotDma then setSlot slotDma v (dmaCopy v oamSize 0 s)
  else if k = slotVbk then setSlot slotVbk v { s with mmu := { s.mmu with vramBank := v.extractLsb' 0 1 } }
  else if k = slotSvbk then setSlot slotSvbk v { s with mmu := { s.mmu with wramBank := nonzero (v.extractLsb' 0 3) } }
  else setSlot k v s

/-- A write at a place reached by address `addr`. -/
def writePlace (addr : Word) (v : Byte) (s : State) : Place → State
  | .rom _ => cartControl addr v s
  | .vram i => { s with mmu := { s.mmu with vram := s.mmu.vram.store i v } }
  | .eram i => { s with mmu := { s.mmu with eram := s.mmu.eram.store i v } }
  | .noEram => s
  | .wram i => { s with mmu := { s.mmu with wram := s.mmu.wram.store i v } }
  | .oam i => setOam i v s
  | .unusable => emit [⟨.writeUnusable, addr, v⟩] s
  | .io k => ioWrite k v s
  | .hram i => { s with mmu := { s.mmu with hram := s.mmu.hram.store i v } }
  | .ie => { s with mmu := { s.mmu with ie := v } }

/-- `MemWrite(addr, 1, v)` (R95 to R105). -/
def memWrite (addr : Word) (v : Byte) (s : State) : State := writePlace addr v s (locate s addr)

end Sys2Proof.Machine
end

