-- ==== Sys2Proof/Machine/Operands.lean ====
section
/-! DEFINITION. The operand forms: the register index (R36), the pair tables (R37) and pair views (R32), the condition codes
(R157), and the values of the immediate operands (R156). -/

namespace Sys2Proof.Machine

/-! ### Pair views -/

/-- The pair views of R32, the first named register the high byte. -/
def Cpu.af (r : Cpu) : Word := r.a ++ r.f
@[inherit_doc Cpu.af] def Cpu.bc (r : Cpu) : Word := r.b ++ r.c
@[inherit_doc Cpu.af] def Cpu.de (r : Cpu) : Word := r.d ++ r.e
@[inherit_doc Cpu.af] def Cpu.hl (r : Cpu) : Word := r.h ++ r.l

/-- Write BC (R32). -/
def setBc (v : Word) (s : State) : State := { s with cpu := { s.cpu with b := hiByte v, c := loByte v } }

/-- Write DE (R32). -/
def setDe (v : Word) (s : State) : State := { s with cpu := { s.cpu with d := hiByte v, e := loByte v } }

/-- Write HL (R32). -/
def setHl (v : Word) (s : State) : State := { s with cpu := { s.cpu with h := hiByte v, l := loByte v } }

/-- Write AF: the low nibble of F stays zero (R32). -/
def setAf (v : Word) (s : State) : State := { s with cpu := { s.cpu with a := hiByte v, f := loByte v &&& 0xF0 } }

/-- A pair of table `rp` (R37). -/
def getRp : Rp → State → Word
  | .bc, s => s.cpu.bc
  | .de, s => s.cpu.de
  | .hl, s => s.cpu.hl
  | .sp, s => s.cpu.sp

/-- Write a pair of table `rp` (R37). -/
def setRp : Rp → Word → State → State
  | .bc, v, s => setBc v s
  | .de, v, s => setDe v s
  | .hl, v, s => setHl v s
  | .sp, v, s => setSp v s

/-- A pair of table `rp2` (R37). -/
def getRp2 : Rp2 → State → Word
  | .bc, s => s.cpu.bc
  | .de, s => s.cpu.de
  | .hl, s => s.cpu.hl
  | .af, s => s.cpu.af

/-- Write a pair of table `rp2` (R37). -/
def setRp2 : Rp2 → Word → State → State
  | .bc, v, s => setBc v s
  | .de, v, s => setDe v s
  | .hl, v, s => setHl v s
  | .af, v, s => setAf v s

/-! ### The register index -/

/-- Write A. -/
def setA (v : Byte) (s : State) : State := { s with cpu := { s.cpu with a := v } }

/-- The value of the operand a register index selects; index 6 is the byte at HL (R36). -/
def r8Value : R8 → State → Byte
  | .b, s => s.cpu.b
  | .c, s => s.cpu.c
  | .d, s => s.cpu.d
  | .e, s => s.cpu.e
  | .h, s => s.cpu.h
  | .l, s => s.cpu.l
  | .hlm, s => readByte s s.cpu.hl
  | .a, s => s.cpu.a

/-- The state after reading that operand: index 6 is a memory read (R36). -/
def afterReadR8 : R8 → State → State
  | .hlm, s => afterRead s s.cpu.hl
  | _, s => s

/-- Read `r8[i]` (R36). -/
def readR8 (r : R8) (s : State) : Byte × State := (r8Value r s, afterReadR8 r s)

/-- Write `r8[i]`; index 6 is a memory write at HL (R36). -/
def writeR8 : R8 → Byte → State → State
  | .b, v, s => { s with cpu := { s.cpu with b := v } }
  | .c, v, s => { s with cpu := { s.cpu with c := v } }
  | .d, v, s => { s with cpu := { s.cpu with d := v } }
  | .e, v, s => { s with cpu := { s.cpu with e := v } }
  | .h, v, s => { s with cpu := { s.cpu with h := v } }
  | .l, v, s => { s with cpu := { s.cpu with l := v } }
  | .hlm, v, s => memWrite s.cpu.hl v s
  | .a, v, s => setA v s

/-! ### Conditions and immediates -/

/-- `cond(cc)` (R157). -/
def cond : Cond → State → Bool
  | .nz, s => !flagZ s
  | .z, s => flagZ s
  | .nc, s => !flagC s
  | .c, s => flagC s

/-- `sext_16` of a displacement byte (R12, R156). -/
def signExtend16 (e : Byte) : Word := e.signExtend 16

/-- The address of LDH and (C): `0xFF00 + n` (R156). -/
def highPage (n : Byte) : Word := 0xFF00 + n.setWidth 16

end Sys2Proof.Machine
end

