-- ==== Sys2Proof/Machine/Cycles.lean ====
section
/-! DEFINITION. The cycle count of a step (R540), in machine cycles: by instruction, with the taken and the not-taken count of
the conditional ones. Only the console reads it, under `CYCLE_SOURCE = TABLE` (R541). -/

namespace Sys2Proof.Machine

/-- Whether an operand is the byte at HL. -/
def R8.isMem : R8 → Bool
  | .hlm => true
  | _ => false

/-- Whether a conditional instruction takes its branch; true for every other instruction (R360, R157). -/
def taken (f : Form) (s : State) : Bool :=
  match f with
  | .jpCond cc _ | .jrCond cc _ | .callCond cc _ | .retCond cc => cond cc s
  | _ => true

/-- The tables of R540, both pages, CB rows with the prefix included. -/
def formCycles (f : Form) (taken : Bool) : Nat :=
  match f with
  | .ld dst src => if R8.isMem dst || R8.isMem src then 2 else 1
  | .ldImm dst _ => if R8.isMem dst then 3 else 2
  | .ldPairImm _ _ => 3
  | .storeInd _ | .loadInd _ => 2
  | .pop _ => 3
  | .push _ => 4
  | .storeAbs _ | .loadAbs _ => 4
  | .storeHigh _ | .loadHigh _ => 3
  | .storeHighC | .loadHighC => 2
  | .storeSp _ => 5
  | .ldSpHl => 2
  | .aluReg _ r => if R8.isMem r then 2 else 1
  | .aluImm _ _ => 2
  | .incReg r | .decReg r => if R8.isMem r then 3 else 1
  | .daa | .cpl | .scf | .ccf | .rlca | .rrca | .rla | .rra => 1
  | .incPair _ | .decPair _ | .addHl _ => 2
  | .addSp _ => 4
  | .ldHlSp _ => 3
  | .jp _ => 4
  | .jpCond _ _ => if taken then 4 else 3
  | .jpHl => 1
  | .jr _ => 3
  | .jrCond _ _ => if taken then 3 else 2
  | .call _ => 6
  | .callCond _ _ => if taken then 6 else 3
  | .ret => 4
  | .retCond _ => if taken then 5 else 2
  | .reti => 4
  | .rst _ => 4
  | .nop | .halt | .stop | .di | .ei => 1
  | .illegal _ => 1
  | .prefixCb => 2
  | .rot _ r | .res _ r | .set _ r => if R8.isMem r then 4 else 2
  | .bit _ r => if R8.isMem r then 3 else 2

/-- The cycles of an instruction about to execute in a state: the table's, but 2 for any CB opcode under
`CB_IMPL = UNIMPLEMENTED` (R540, R368). -/
def cycles (i : Instr) (s : State) : Nat :=
  if i.form.onCbPage && decide (s.config.cbImpl = .unimplemented) then 2
  else formCycles i.form (taken i.form s)

/-- The cycles of a step in which a halted CPU stays halted, and of one that services an interrupt (R540). -/
def idleCycles : Nat := 1
@[inherit_doc idleCycles] def serviceCycles : Nat := 5

end Sys2Proof.Machine
end

