-- ==== Sys2Proof/Machine/Ops.lean ====
section
/-! DEFINITION. The shared operations of the CPU: fetching (R13, R360), the stack (R211, R212), the transfer of control, taking
an interrupt, the only exception this hardware has (R430, R442), and returning from one (R329, R444). -/

namespace Sys2Proof.Machine

/-! ### Fetching -/

/-- `fetch8()`: read at PC, then increment it modulo 2^16 (R13, R35). -/
def fetch8 (s : State) : Byte × State :=
  let (v, s1) := memRead s s.cpu.pc
  (v, setPc (s1.cpu.pc + 1) s1)

/-- Fetch `n` bytes in order (R35, R156). -/
def fetchBytes : Nat → State → List Byte × State
  | 0, s => ([], s)
  | n + 1, s =>
    let (v, s1) := fetch8 s
    let (vs, s2) := fetchBytes n s1
    (v :: vs, s2)

/-! ### The stack -/

/-- `push16(v)`: SP is decremented twice; the high byte is written at SP−1, then the low byte at SP−2 (R211). -/
def push16 (v : Word) (s : State) : State :=
  let s1 := setSp (s.cpu.sp - 1) s
  let s2 := memWrite s1.cpu.sp (hiByte v) s1
  let s3 := setSp (s2.cpu.sp - 1) s2
  memWrite s3.cpu.sp (loByte v) s3

/-- `pop16()`: the low byte from SP, the high byte from SP+1, then SP+2 (R212). -/
def pop16 (s : State) : Word × State :=
  let (lo, s1) := memRead s s.cpu.sp
  let (hi, s2) := memRead s1 (s1.cpu.sp + 1)
  (wordOfBytes lo hi, setSp (s2.cpu.sp + 2) s2)

/-- Push PC and go to an address: CALL, RST and interrupt service (R325, R330, R442). -/
def callTo (target : Word) (s : State) : State :=
  setPc target (push16 s.cpu.pc s)

/-- `PC <- pop16()`: RET, RETI and the taken RET cc (R327, R328, R329). -/
def returnPop (s : State) : State :=
  let (target, s1) := pop16 s
  setPc target s1

/-! ### Interrupts -/

/-- Write IME and `ime_scheduled` (R39). -/
def setIme (ime scheduled : Bool) (s : State) : State :=
  { s with cpu := { s.cpu with ime := ime, imeScheduled := scheduled } }

/-- `pending = ie & io[0x0F] & 0x1F` (R441). -/
def pending (s : State) : Byte := s.mmu.ie &&& slot s slotIf &&& 0x1F

/-- The lowest set bit of a pending set: the interrupt of highest priority (R441). -/
def lowestBit (p : Byte) : Nat :=
  if p.getLsbD 0 then 0
  else if p.getLsbD 1 then 1
  else if p.getLsbD 2 then 2
  else if p.getLsbD 3 then 3
  else 4

/-- The vector of interrupt `n`: `0x0040 + 8n` (R440). -/
def vector (n : Nat) : Word := BitVec.ofNat 16 (0x40 + 8 * n)

/-- Taking interrupt `n`, the trap entry of this hardware (R442): PC is pushed, PC goes to the vector, IF bit `n` is cleared
on the privileged path, after the push, and IME and `ime_scheduled` become false. Nothing else is saved (R443). -/
def takeInterrupt (n : Nat) (s : State) : State :=
  let s1 := callTo (vector n) s
  let s2 := setSlot slotIf (slot s1 slotIf &&& ~~~(1#8 <<< n)) s1
  setIme false false s2

/-- `service(pending)` (R442): the interrupt is chosen before any access. -/
def service (p : Byte) (s : State) : State := takeInterrupt (lowestBit p) s

/-- Returning from an interrupt (R329, R444): PC is popped and, under `IRQ_IMPL = FULL`, IME is set at once. -/
def returnFromInterrupt (s : State) : State :=
  let s1 := returnPop s
  if s1.config.irqImpl = .full then setIme true false s1 else s1

end Sys2Proof.Machine
end

