-- ==== Sys2Proof/Machine/Alu16.lean ====
section
/-! DEFINITION. 16-bit arithmetic (42_alu16.md, R300 to R305): the shared operations, then one meaning per row. -/

namespace Sys2Proof.Machine

/-- `INC rr`: no flag changes (R300). -/
def incPair (p : Rp) (s : State) : State := setRp p (getRp p s + 1) s

/-- `DEC rr`: no flag changes (R301). -/
def decPair (p : Rp) (s : State) : State := setRp p (getRp p s - 1) s

/-- `ADD HL,rr`: Z is kept (R302). -/
def addHl (p : Rp) (s : State) : State :=
  let v := getRp p s
  let hl := s.cpu.hl
  setFlags none (some false) (some (halfCarryAdd16 hl v)) (some (carryAdd16 hl v)) (setHl (hl + v) s)

/-- The flags of SP plus a displacement: those of the unsigned byte addition (R303, R304). -/
def spFlags (e : Byte) (s : State) : State :=
  setFlags (some false) (some false) (some (halfCarrySp s.cpu.sp e)) (some (carrySp s.cpu.sp e)) s

/-- `ADD SP,e8` (R303). -/
def addSp (e : Byte) (s : State) : State := setSp (s.cpu.sp + signExtend16 e) (spFlags e s)

/-- `LD HL,SP+e8`: SP is not written (R304). -/
def ldHlSp (e : Byte) (s : State) : State := setHl (s.cpu.sp + signExtend16 e) (spFlags e s)

/-- INC BC (R300). -/
def execIncBC (s : State) : Result := .next (incPair .bc s)
/-- ADD HL,BC (R302). -/
def execAddHL_BC (s : State) : Result := .next (addHl .bc s)
/-- DEC BC (R301). -/
def execDecBC (s : State) : Result := .next (decPair .bc s)
/-- INC DE (R300). -/
def execIncDE (s : State) : Result := .next (incPair .de s)
/-- ADD HL,DE (R302). -/
def execAddHL_DE (s : State) : Result := .next (addHl .de s)
/-- DEC DE (R301). -/
def execDecDE (s : State) : Result := .next (decPair .de s)
/-- INC HL (R300). -/
def execIncHL (s : State) : Result := .next (incPair .hl s)
/-- ADD HL,HL (R302). -/
def execAddHL_HL (s : State) : Result := .next (addHl .hl s)
/-- DEC HL (R301). -/
def execDecHL (s : State) : Result := .next (decPair .hl s)
/-- INC SP (R300). -/
def execIncSP (s : State) : Result := .next (incPair .sp s)
/-- ADD HL,SP (R302). -/
def execAddHL_SP (s : State) : Result := .next (addHl .sp s)
/-- DEC SP (R301). -/
def execDecSP (s : State) : Result := .next (decPair .sp s)
/-- ADD SP,e8 (R303). -/
def execAddSP_e8 (e : Byte) (s : State) : Result := .next (addSp e s)
/-- LD HL,SP+e8 (R304). -/
def execLdHL_SPe8 (e : Byte) (s : State) : Result := .next (ldHlSp e s)

end Sys2Proof.Machine
end

