-- ==== Sys2Proof/Machine/Alu8.lean ====
section
/-! DEFINITION. 8-bit arithmetic and logic (41_alu8.md, R250 to R269): the shared operations, then one meaning per row. -/

namespace Sys2Proof.Machine

/-- `ADD A,v` (R251). -/
def addA (v : Byte) (s : State) : State :=
  let a := s.cpu.a
  setFlags (some (a + v == 0)) (some false) (some (halfCarryAdd a v 0)) (some (carryAdd a v 0)) (setA (a + v) s)

/-- `ADC A,v` (R252). -/
def adcA (v : Byte) (s : State) : State :=
  let a := s.cpu.a
  let c := bitNat (flagC s)
  let r := a + v + BitVec.ofNat 8 c
  setFlags (some (r == 0)) (some false) (some (halfCarryAdd a v c)) (some (carryAdd a v c)) (setA r s)

/-- The flags of a comparison of A with `v`: those of SUB (R253, R258). -/
def compareFlags (v : Byte) (s : State) : State :=
  let a := s.cpu.a
  setFlags (some (a - v == 0)) (some true) (some (halfBorrowSub a v 0)) (some (borrowSub a v 0)) s

/-- `SUB v` (R253). -/
def subA (v : Byte) (s : State) : State := setA (s.cpu.a - v) (compareFlags v s)

/-- `SBC A,v` (R254). -/
def sbcA (v : Byte) (s : State) : State :=
  let a := s.cpu.a
  let c := bitNat (flagC s)
  let r := a - v - BitVec.ofNat 8 c
  setFlags (some (r == 0)) (some true) (some (halfBorrowSub a v c)) (some (borrowSub a v c)) (setA r s)

/-- `AND v` (R255). -/
def andA (v : Byte) (s : State) : State :=
  let r := s.cpu.a &&& v
  setFlags (some (r == 0)) (some false) (some true) (some false) (setA r s)

/-- `XOR v` (R256). -/
def xorA (v : Byte) (s : State) : State :=
  let r := s.cpu.a ^^^ v
  setFlags (some (r == 0)) (some false) (some false) (some false) (setA r s)

/-- `OR v` (R257). -/
def orA (v : Byte) (s : State) : State :=
  let r := s.cpu.a ||| v
  setFlags (some (r == 0)) (some false) (some false) (some false) (setA r s)

/-- `CP v`: A is not written (R258). -/
def cpA (v : Byte) (s : State) : State := compareFlags v s

/-- The operation an ALU field selects (R153). -/
def aluOp : AluOp → Byte → State → State
  | .add => addA
  | .adc => adcA
  | .sub => subA
  | .sbc => sbcA
  | .and => andA
  | .xor => xorA
  | .or => orA
  | .cp => cpA

/-- The register family 0x80–0xBF: the operand is read before A is written (R250). -/
def aluReg (op : AluOp) (r : R8) (s : State) : State :=
  let (v, s1) := readR8 r s
  aluOp op v s1

/-- The immediate family 0xC6 + 8y (R250). -/
def aluImm (op : AluOp) (v : Byte) (s : State) : State := aluOp op v s

/-- `INC r`: C is kept (R259). -/
def incReg (r : R8) (s : State) : State :=
  let (old, s1) := readR8 r s
  setFlags (some (old + 1 == 0)) (some false) (some (halfCarryAdd old 1 0)) none (writeR8 r (old + 1) s1)

/-- `DEC r`: C is kept (R260). -/
def decReg (r : R8) (s : State) : State :=
  let (old, s1) := readR8 r s
  setFlags (some (old - 1 == 0)) (some true) (some (halfBorrowSub old 1 0)) none (writeR8 r (old - 1) s1)

/-- Whether DAA applies the 0x06 correction; with N = 1 only H is tested (R261, D15). -/
def daaLow (a : Byte) (n h : Bool) : Bool := if n then h else h || decide (lowNibble a > 0x09)

/-- Whether DAA applies the 0x60 correction; with N = 1 only C is tested (R261, D15). -/
def daaHigh (a : Byte) (n c : Bool) : Bool := if n then c else c || decide (a.toNat > 0x99)

/-- `DAA`: every condition is tested on A before any correction; N is kept and C is never cleared (R261). -/
def daa (s : State) : State :=
  let a := s.cpu.a
  let low := daaLow a (flagN s) (flagH s)
  let high := daaHigh a (flagN s) (flagC s)
  let corr : Byte := (if low then 0x06 else 0x00) ||| (if high then 0x60 else 0x00)
  let r := if flagN s then a - corr else a + corr
  setFlags (some (r == 0)) none (some false) (if high then some true else none) (setA r s)

/-- `CPL` (R262). -/
def cpl (s : State) : State := setFlags none (some true) (some true) none (setA (~~~s.cpu.a) s)

/-- `SCF` (R263). -/
def scf (s : State) : State := setFlags none (some false) (some false) (some true) s

/-- `CCF` (R264). -/
def ccf (s : State) : State := setFlags none (some false) (some false) (some (!flagC s)) s

/-- The result of a rotate, shift or swap, from the operand and the carry flag (R265 to R268, R401 to R408). -/
def rotResult (op : RotOp) (v : Byte) (c : Bool) : Byte :=
  match op with
  | .rlc => (v <<< 1) ||| (if v.getLsbD 7 then 0x01 else 0x00)
  | .rrc => (v >>> 1) ||| (if v.getLsbD 0 then 0x80 else 0x00)
  | .rl => (v <<< 1) ||| (if c then 0x01 else 0x00)
  | .rr => (v >>> 1) ||| (if c then 0x80 else 0x00)
  | .sla => v <<< 1
  | .sra => (v >>> 1) ||| (v &&& 0x80)
  | .swap => ((v &&& 0x0F) <<< 4) ||| (v >>> 4)
  | .srl => v >>> 1

/-- The carry of a rotate, shift or swap: the bit moved out, or 0 (R265 to R268, R401 to R408). -/
def rotCarry (op : RotOp) (v : Byte) : Bool :=
  match op with
  | .rlc | .rl | .sla => v.getLsbD 7
  | .rrc | .rr | .sra | .srl => v.getLsbD 0
  | .swap => false

/-- A rotate of the accumulator: Z is always cleared (R265 to R268). -/
def rotA (op : RotOp) (s : State) : State :=
  let a := s.cpu.a
  setFlags (some false) (some false) (some false) (some (rotCarry op a)) (setA (rotResult op a (flagC s)) s)

/-- `RLCA` (R265). -/
def rlca (s : State) : State := rotA .rlc s

/-- `RRCA` (R266). -/
def rrca (s : State) : State := rotA .rrc s

/-- `RLA` (R267). -/
def rla (s : State) : State := rotA .rl s

/-- `RRA` (R268). -/
def rra (s : State) : State := rotA .rr s

/-- INC B (R259). -/
def execIncB (s : State) : Result := .next (incReg .b s)
/-- DEC B (R260). -/
def execDecB (s : State) : Result := .next (decReg .b s)
/-- RLCA (R265). -/
def execRlca (s : State) : Result := .next (rlca s)
/-- INC C (R259). -/
def execIncC (s : State) : Result := .next (incReg .c s)
/-- DEC C (R260). -/
def execDecC (s : State) : Result := .next (decReg .c s)
/-- RRCA (R266). -/
def execRrca (s : State) : Result := .next (rrca s)
/-- INC D (R259). -/
def execIncD (s : State) : Result := .next (incReg .d s)
/-- DEC D (R260). -/
def execDecD (s : State) : Result := .next (decReg .d s)
/-- RLA (R267). -/
def execRla (s : State) : Result := .next (rla s)
/-- INC E (R259). -/
def execIncE (s : State) : Result := .next (incReg .e s)
/-- DEC E (R260). -/
def execDecE (s : State) : Result := .next (decReg .e s)
/-- RRA (R268). -/
def execRra (s : State) : Result := .next (rra s)
/-- INC H (R259). -/
def execIncH (s : State) : Result := .next (incReg .h s)
/-- DEC H (R260). -/
def execDecH (s : State) : Result := .next (decReg .h s)
/-- DAA (R261). -/
def execDaa (s : State) : Result := .next (daa s)
/-- INC L (R259). -/
def execIncL (s : State) : Result := .next (incReg .l s)
/-- DEC L (R260). -/
def execDecL (s : State) : Result := .next (decReg .l s)
/-- CPL (R262). -/
def execCpl (s : State) : Result := .next (cpl s)
/-- INC (HL) (R259). -/
def execIncHLm (s : State) : Result := .next (incReg .hlm s)
/-- DEC (HL) (R260). -/
def execDecHLm (s : State) : Result := .next (decReg .hlm s)
/-- SCF (R263). -/
def execScf (s : State) : Result := .next (scf s)
/-- INC A (R259). -/
def execIncA (s : State) : Result := .next (incReg .a s)
/-- DEC A (R260). -/
def execDecA (s : State) : Result := .next (decReg .a s)
/-- CCF (R264). -/
def execCcf (s : State) : Result := .next (ccf s)
/-- ADD A,B (R251). -/
def execAddA_B (s : State) : Result := .next (aluReg .add .b s)
/-- ADD A,C (R251). -/
def execAddA_C (s : State) : Result := .next (aluReg .add .c s)
/-- ADD A,D (R251). -/
def execAddA_D (s : State) : Result := .next (aluReg .add .d s)
/-- ADD A,E (R251). -/
def execAddA_E (s : State) : Result := .next (aluReg .add .e s)
/-- ADD A,H (R251). -/
def execAddA_H (s : State) : Result := .next (aluReg .add .h s)
/-- ADD A,L (R251). -/
def execAddA_L (s : State) : Result := .next (aluReg .add .l s)
/-- ADD A,(HL) (R251). -/
def execAddA_HLm (s : State) : Result := .next (aluReg .add .hlm s)
/-- ADD A,A (R251). -/
def execAddA_A (s : State) : Result := .next (aluReg .add .a s)
/-- ADC A,B (R252). -/
def execAdcA_B (s : State) : Result := .next (aluReg .adc .b s)
/-- ADC A,C (R252). -/
def execAdcA_C (s : State) : Result := .next (aluReg .adc .c s)
/-- ADC A,D (R252). -/
def execAdcA_D (s : State) : Result := .next (aluReg .adc .d s)
/-- ADC A,E (R252). -/
def execAdcA_E (s : State) : Result := .next (aluReg .adc .e s)
/-- ADC A,H (R252). -/
def execAdcA_H (s : State) : Result := .next (aluReg .adc .h s)
/-- ADC A,L (R252). -/
def execAdcA_L (s : State) : Result := .next (aluReg .adc .l s)
/-- ADC A,(HL) (R252). -/
def execAdcA_HLm (s : State) : Result := .next (aluReg .adc .hlm s)
/-- ADC A,A (R252). -/
def execAdcA_A (s : State) : Result := .next (aluReg .adc .a s)
/-- SUB B (R253). -/
def execSub_B (s : State) : Result := .next (aluReg .sub .b s)
/-- SUB C (R253). -/
def execSub_C (s : State) : Result := .next (aluReg .sub .c s)
/-- SUB D (R253). -/
def execSub_D (s : State) : Result := .next (aluReg .sub .d s)
/-- SUB E (R253). -/
def execSub_E (s : State) : Result := .next (aluReg .sub .e s)
/-- SUB H (R253). -/
def execSub_H (s : State) : Result := .next (aluReg .sub .h s)
/-- SUB L (R253). -/
def execSub_L (s : State) : Result := .next (aluReg .sub .l s)
/-- SUB (HL) (R253). -/
def execSub_HLm (s : State) : Result := .next (aluReg .sub .hlm s)
/-- SUB A (R253). -/
def execSub_A (s : State) : Result := .next (aluReg .sub .a s)
/-- SBC A,B (R254). -/
def execSbcA_B (s : State) : Result := .next (aluReg .sbc .b s)
/-- SBC A,C (R254). -/
def execSbcA_C (s : State) : Result := .next (aluReg .sbc .c s)
/-- SBC A,D (R254). -/
def execSbcA_D (s : State) : Result := .next (aluReg .sbc .d s)
/-- SBC A,E (R254). -/
def execSbcA_E (s : State) : Result := .next (aluReg .sbc .e s)
/-- SBC A,H (R254). -/
def execSbcA_H (s : State) : Result := .next (aluReg .sbc .h s)
/-- SBC A,L (R254). -/
def execSbcA_L (s : State) : Result := .next (aluReg .sbc .l s)
/-- SBC A,(HL) (R254). -/
def execSbcA_HLm (s : State) : Result := .next (aluReg .sbc .hlm s)
/-- SBC A,A (R254). -/
def execSbcA_A (s : State) : Result := .next (aluReg .sbc .a s)
/-- AND B (R255). -/
def execAnd_B (s : State) : Result := .next (aluReg .and .b s)
/-- AND C (R255). -/
def execAnd_C (s : State) : Result := .next (aluReg .and .c s)
/-- AND D (R255). -/
def execAnd_D (s : State) : Result := .next (aluReg .and .d s)
/-- AND E (R255). -/
def execAnd_E (s : State) : Result := .next (aluReg .and .e s)
/-- AND H (R255). -/
def execAnd_H (s : State) : Result := .next (aluReg .and .h s)
/-- AND L (R255). -/
def execAnd_L (s : State) : Result := .next (aluReg .and .l s)
/-- AND (HL) (R255). -/
def execAnd_HLm (s : State) : Result := .next (aluReg .and .hlm s)
/-- AND A (R255). -/
def execAnd_A (s : State) : Result := .next (aluReg .and .a s)
/-- XOR B (R256). -/
def execXor_B (s : State) : Result := .next (aluReg .xor .b s)
/-- XOR C (R256). -/
def execXor_C (s : State) : Result := .next (aluReg .xor .c s)
/-- XOR D (R256). -/
def execXor_D (s : State) : Result := .next (aluReg .xor .d s)
/-- XOR E (R256). -/
def execXor_E (s : State) : Result := .next (aluReg .xor .e s)
/-- XOR H (R256). -/
def execXor_H (s : State) : Result := .next (aluReg .xor .h s)
/-- XOR L (R256). -/
def execXor_L (s : State) : Result := .next (aluReg .xor .l s)
/-- XOR (HL) (R256). -/
def execXor_HLm (s : State) : Result := .next (aluReg .xor .hlm s)
/-- XOR A (R256). -/
def execXor_A (s : State) : Result := .next (aluReg .xor .a s)
/-- OR B (R257). -/
def execOr_B (s : State) : Result := .next (aluReg .or .b s)
/-- OR C (R257). -/
def execOr_C (s : State) : Result := .next (aluReg .or .c s)
/-- OR D (R257). -/
def execOr_D (s : State) : Result := .next (aluReg .or .d s)
/-- OR E (R257). -/
def execOr_E (s : State) : Result := .next (aluReg .or .e s)
/-- OR H (R257). -/
def execOr_H (s : State) : Result := .next (aluReg .or .h s)
/-- OR L (R257). -/
def execOr_L (s : State) : Result := .next (aluReg .or .l s)
/-- OR (HL) (R257). -/
def execOr_HLm (s : State) : Result := .next (aluReg .or .hlm s)
/-- OR A (R257). -/
def execOr_A (s : State) : Result := .next (aluReg .or .a s)
/-- CP B (R258). -/
def execCp_B (s : State) : Result := .next (aluReg .cp .b s)
/-- CP C (R258). -/
def execCp_C (s : State) : Result := .next (aluReg .cp .c s)
/-- CP D (R258). -/
def execCp_D (s : State) : Result := .next (aluReg .cp .d s)
/-- CP E (R258). -/
def execCp_E (s : State) : Result := .next (aluReg .cp .e s)
/-- CP H (R258). -/
def execCp_H (s : State) : Result := .next (aluReg .cp .h s)
/-- CP L (R258). -/
def execCp_L (s : State) : Result := .next (aluReg .cp .l s)
/-- CP (HL) (R258). -/
def execCp_HLm (s : State) : Result := .next (aluReg .cp .hlm s)
/-- CP A (R258). -/
def execCp_A (s : State) : Result := .next (aluReg .cp .a s)
/-- ADD A,n8 (R251). -/
def execAddA_n8 (v : Byte) (s : State) : Result := .next (aluImm .add v s)
/-- ADC A,n8 (R252). -/
def execAdcA_n8 (v : Byte) (s : State) : Result := .next (aluImm .adc v s)
/-- SUB n8 (R253). -/
def execSub_n8 (v : Byte) (s : State) : Result := .next (aluImm .sub v s)
/-- SBC A,n8 (R254). -/
def execSbcA_n8 (v : Byte) (s : State) : Result := .next (aluImm .sbc v s)
/-- AND n8 (R255). -/
def execAnd_n8 (v : Byte) (s : State) : Result := .next (aluImm .and v s)
/-- XOR n8 (R256). -/
def execXor_n8 (v : Byte) (s : State) : Result := .next (aluImm .xor v s)
/-- OR n8 (R257). -/
def execOr_n8 (v : Byte) (s : State) : Result := .next (aluImm .or v s)
/-- CP n8 (R258). -/
def execCp_n8 (v : Byte) (s : State) : Result := .next (aluImm .cp v s)

end Sys2Proof.Machine
end

