-- ==== Sys2Proof/Machine/Control.lean ====
section
/-! DEFINITION. Jumps, calls, returns and restarts (43_control.md, R320 to R331): the shared operations, then one meaning per
row. PC holds the address after the instruction's last byte when a meaning runs (R35). No flag is written. -/

namespace Sys2Proof.Machine

/-- `JP a16` (R320). -/
def jp (a : Word) (s : State) : State := setPc a s

/-- `JP cc,a16` (R321). -/
def jpCond (cc : Cond) (a : Word) (s : State) : State := if cond cc s then jp a s else s

/-- `JP (HL)`: the target is HL itself (R322). -/
def jpHl (s : State) : State := setPc s.cpu.hl s

/-- `JR e8`: relative to the address after the operand (R323). -/
def jr (e : Byte) (s : State) : State := setPc (s.cpu.pc + signExtend16 e) s

/-- `JR cc,e8` (R324). -/
def jrCond (cc : Cond) (e : Byte) (s : State) : State := if cond cc s then jr e s else s

/-- `CALL a16` (R325). -/
def call (a : Word) (s : State) : State := callTo a s

/-- `CALL cc,a16` (R326). -/
def callCond (cc : Cond) (a : Word) (s : State) : State := if cond cc s then call a s else s

/-- `RET` (R327). -/
def ret (s : State) : State := returnPop s

/-- `RET cc` (R328). -/
def retCond (cc : Cond) (s : State) : State := if cond cc s then ret s else s

/-- `RETI` (R329). -/
def reti (s : State) : State := returnFromInterrupt s

/-- The vector of `RST`: `8y` (R155). -/
def rstVector (y : BitVec 3) : Word := BitVec.ofNat 16 (8 * y.toNat)

/-- `RST n` (R330). -/
def rst (y : BitVec 3) (s : State) : State := callTo (rstVector y) s

/-- JR e8 (R323). -/
def execJr_e8 (e : Byte) (s : State) : Result := .next (jr e s)
/-- JR NZ,e8 (R324). -/
def execJrNZ_e8 (e : Byte) (s : State) : Result := .next (jrCond .nz e s)
/-- JR Z,e8 (R324). -/
def execJrZ_e8 (e : Byte) (s : State) : Result := .next (jrCond .z e s)
/-- JR NC,e8 (R324). -/
def execJrNC_e8 (e : Byte) (s : State) : Result := .next (jrCond .nc e s)
/-- JR C,e8 (R324). -/
def execJrC_e8 (e : Byte) (s : State) : Result := .next (jrCond .c e s)
/-- RET NZ (R328). -/
def execRetNZ (s : State) : Result := .next (retCond .nz s)
/-- JP NZ,a16 (R321). -/
def execJpNZ_a16 (a : Word) (s : State) : Result := .next (jpCond .nz a s)
/-- JP a16 (R320). -/
def execJp_a16 (a : Word) (s : State) : Result := .next (jp a s)
/-- CALL NZ,a16 (R326). -/
def execCallNZ_a16 (a : Word) (s : State) : Result := .next (callCond .nz a s)
/-- RST 0x00 (R330). -/
def execRst00 (s : State) : Result := .next (rst 0 s)
/-- RET Z (R328). -/
def execRetZ (s : State) : Result := .next (retCond .z s)
/-- RET (R327). -/
def execRet (s : State) : Result := .next (ret s)
/-- JP Z,a16 (R321). -/
def execJpZ_a16 (a : Word) (s : State) : Result := .next (jpCond .z a s)
/-- CALL Z,a16 (R326). -/
def execCallZ_a16 (a : Word) (s : State) : Result := .next (callCond .z a s)
/-- CALL a16 (R325). -/
def execCall_a16 (a : Word) (s : State) : Result := .next (call a s)
/-- RST 0x08 (R330). -/
def execRst08 (s : State) : Result := .next (rst 1 s)
/-- RET NC (R328). -/
def execRetNC (s : State) : Result := .next (retCond .nc s)
/-- JP NC,a16 (R321). -/
def execJpNC_a16 (a : Word) (s : State) : Result := .next (jpCond .nc a s)
/-- CALL NC,a16 (R326). -/
def execCallNC_a16 (a : Word) (s : State) : Result := .next (callCond .nc a s)
/-- RST 0x10 (R330). -/
def execRst10 (s : State) : Result := .next (rst 2 s)
/-- RET C (R328). -/
def execRetC (s : State) : Result := .next (retCond .c s)
/-- RETI (R329). -/
def execReti (s : State) : Result := .next (reti s)
/-- JP C,a16 (R321). -/
def execJpC_a16 (a : Word) (s : State) : Result := .next (jpCond .c a s)
/-- CALL C,a16 (R326). -/
def execCallC_a16 (a : Word) (s : State) : Result := .next (callCond .c a s)
/-- RST 0x18 (R330). -/
def execRst18 (s : State) : Result := .next (rst 3 s)
/-- RST 0x20 (R330). -/
def execRst20 (s : State) : Result := .next (rst 4 s)
/-- JP (HL) (R322). -/
def execJpHL (s : State) : Result := .next (jpHl s)
/-- RST 0x28 (R330). -/
def execRst28 (s : State) : Result := .next (rst 5 s)
/-- RST 0x30 (R330). -/
def execRst30 (s : State) : Result := .next (rst 6 s)
/-- RST 0x38 (R330). -/
def execRst38 (s : State) : Result := .next (rst 7 s)

end Sys2Proof.Machine
end

