-- ==== Sys2Proof/Machine/Load.lean ====
section
/-! DEFINITION. Loads, stores and the stack (40_loads.md, R200 to R222): the shared operations, then one meaning per row. Each
runs after its operand bytes are fetched (R128). Only POP AF writes a flag. -/

namespace Sys2Proof.Machine

/-- `LD r,r'`: read the source, then write the destination (R200). -/
def ldReg (dst src : R8) (s : State) : State :=
  let (v, s1) := readR8 src s
  writeR8 dst v s1

/-- `LD r,d8` (R201). -/
def ldImm (dst : R8) (v : Byte) (s : State) : State := writeR8 dst v s

/-- `LD rr,d16` (R202). -/
def ldPairImm (p : Rp) (v : Word) (s : State) : State := setRp p v s

/-- The address an indirect accumulator load or store uses: HL± uses HL before it changes (R203 to R210). -/
def indAddr : IndMode → State → Word
  | .bc, s => s.cpu.bc
  | .de, s => s.cpu.de
  | .hlInc, s => s.cpu.hl
  | .hlDec, s => s.cpu.hl

/-- The change of HL after the access (R205, R206, R209, R210). -/
def indUpdate : IndMode → State → State
  | .bc, s => s
  | .de, s => s
  | .hlInc, s => setHl (s.cpu.hl + 1) s
  | .hlDec, s => setHl (s.cpu.hl - 1) s

/-- `LD (BC),A`, `LD (DE),A`, `LD (HL+),A`, `LD (HL-),A` (R203 to R206). -/
def storeInd (m : IndMode) (s : State) : State := indUpdate m (memWrite (indAddr m s) s.cpu.a s)

/-- `A <- MemRead(addr, 1)`. -/
def loadA (addr : Word) (s : State) : State :=
  let (v, s1) := memRead s addr
  setA v s1

/-- `LD A,(BC)`, `LD A,(DE)`, `LD A,(HL+)`, `LD A,(HL-)` (R207 to R210). -/
def loadInd (m : IndMode) (s : State) : State := indUpdate m (loadA (indAddr m s) s)

/-- `POP rr`; POP AF masks F (R213). -/
def popPair (p : Rp2) (s : State) : State :=
  let (v, s1) := pop16 s
  setRp2 p v s1

/-- `PUSH rr` (R214). -/
def pushPair (p : Rp2) (s : State) : State := push16 (getRp2 p s) s

/-- `LD (a16),A` (R215). -/
def storeAbs (addr : Word) (s : State) : State := memWrite addr s.cpu.a s

/-- `LD A,(a16)` (R216). -/
def loadAbs (addr : Word) (s : State) : State := loadA addr s

/-- `LDH (n8),A` (R217). -/
def storeHigh (n : Byte) (s : State) : State := memWrite (highPage n) s.cpu.a s

/-- `LDH A,(n8)` (R218). -/
def loadHigh (n : Byte) (s : State) : State := loadA (highPage n) s

/-- `LD (C),A` (R219). -/
def storeHighC (s : State) : State := memWrite (highPage s.cpu.c) s.cpu.a s

/-- `LD A,(C)` (R220). -/
def loadHighC (s : State) : State := loadA (highPage s.cpu.c) s

/-- `LD (a16),SP`: the low byte at `a16`, then the high byte at `a16 + 1` modulo 2^16 (R221). -/
def storeSp (addr : Word) (s : State) : State :=
  let s1 := memWrite addr (loByte s.cpu.sp) s
  memWrite (addr + 1) (hiByte s1.cpu.sp) s1

/-- `LD SP,HL` (R222). -/
def ldSpHl (s : State) : State := setSp s.cpu.hl s

/-- LD BC,d16 (R202). -/
def execLdBC_d16 (v : Word) (s : State) : Result := .next (ldPairImm .bc v s)
/-- LD (BC),A (R203). -/
def execLdBCm_A (s : State) : Result := .next (storeInd .bc s)
/-- LD B,d8 (R201). -/
def execLdB_d8 (v : Byte) (s : State) : Result := .next (ldImm .b v s)
/-- LD (a16),SP (R221). -/
def execLdA16m_SP (a : Word) (s : State) : Result := .next (storeSp a s)
/-- LD A,(BC) (R207). -/
def execLdA_BCm (s : State) : Result := .next (loadInd .bc s)
/-- LD C,d8 (R201). -/
def execLdC_d8 (v : Byte) (s : State) : Result := .next (ldImm .c v s)
/-- LD DE,d16 (R202). -/
def execLdDE_d16 (v : Word) (s : State) : Result := .next (ldPairImm .de v s)
/-- LD (DE),A (R204). -/
def execLdDEm_A (s : State) : Result := .next (storeInd .de s)
/-- LD D,d8 (R201). -/
def execLdD_d8 (v : Byte) (s : State) : Result := .next (ldImm .d v s)
/-- LD A,(DE) (R208). -/
def execLdA_DEm (s : State) : Result := .next (loadInd .de s)
/-- LD E,d8 (R201). -/
def execLdE_d8 (v : Byte) (s : State) : Result := .next (ldImm .e v s)
/-- LD HL,d16 (R202). -/
def execLdHL_d16 (v : Word) (s : State) : Result := .next (ldPairImm .hl v s)
/-- LD (HL+),A (R205). -/
def execLdHLinc_A (s : State) : Result := .next (storeInd .hlInc s)
/-- LD H,d8 (R201). -/
def execLdH_d8 (v : Byte) (s : State) : Result := .next (ldImm .h v s)
/-- LD A,(HL+) (R209). -/
def execLdA_HLinc (s : State) : Result := .next (loadInd .hlInc s)
/-- LD L,d8 (R201). -/
def execLdL_d8 (v : Byte) (s : State) : Result := .next (ldImm .l v s)
/-- LD SP,d16 (R202). -/
def execLdSP_d16 (v : Word) (s : State) : Result := .next (ldPairImm .sp v s)
/-- LD (HL-),A (R206). -/
def execLdHLdec_A (s : State) : Result := .next (storeInd .hlDec s)
/-- LD (HL),d8 (R201). -/
def execLdHLm_d8 (v : Byte) (s : State) : Result := .next (ldImm .hlm v s)
/-- LD A,(HL-) (R210). -/
def execLdA_HLdec (s : State) : Result := .next (loadInd .hlDec s)
/-- LD A,d8 (R201). -/
def execLdA_d8 (v : Byte) (s : State) : Result := .next (ldImm .a v s)
/-- LD B,B (R200). -/
def execLdB_B (s : State) : Result := .next (ldReg .b .b s)
/-- LD B,C (R200). -/
def execLdB_C (s : State) : Result := .next (ldReg .b .c s)
/-- LD B,D (R200). -/
def execLdB_D (s : State) : Result := .next (ldReg .b .d s)
/-- LD B,E (R200). -/
def execLdB_E (s : State) : Result := .next (ldReg .b .e s)
/-- LD B,H (R200). -/
def execLdB_H (s : State) : Result := .next (ldReg .b .h s)
/-- LD B,L (R200). -/
def execLdB_L (s : State) : Result := .next (ldReg .b .l s)
/-- LD B,(HL) (R200). -/
def execLdB_HLm (s : State) : Result := .next (ldReg .b .hlm s)
/-- LD B,A (R200). -/
def execLdB_A (s : State) : Result := .next (ldReg .b .a s)
/-- LD C,B (R200). -/
def execLdC_B (s : State) : Result := .next (ldReg .c .b s)
/-- LD C,C (R200). -/
def execLdC_C (s : State) : Result := .next (ldReg .c .c s)
/-- LD C,D (R200). -/
def execLdC_D (s : State) : Result := .next (ldReg .c .d s)
/-- LD C,E (R200). -/
def execLdC_E (s : State) : Result := .next (ldReg .c .e s)
/-- LD C,H (R200). -/
def execLdC_H (s : State) : Result := .next (ldReg .c .h s)
/-- LD C,L (R200). -/
def execLdC_L (s : State) : Result := .next (ldReg .c .l s)
/-- LD C,(HL) (R200). -/
def execLdC_HLm (s : State) : Result := .next (ldReg .c .hlm s)
/-- LD C,A (R200). -/
def execLdC_A (s : State) : Result := .next (ldReg .c .a s)
/-- LD D,B (R200). -/
def execLdD_B (s : State) : Result := .next (ldReg .d .b s)
/-- LD D,C (R200). -/
def execLdD_C (s : State) : Result := .next (ldReg .d .c s)
/-- LD D,D (R200). -/
def execLdD_D (s : State) : Result := .next (ldReg .d .d s)
/-- LD D,E (R200). -/
def execLdD_E (s : State) : Result := .next (ldReg .d .e s)
/-- LD D,H (R200). -/
def execLdD_H (s : State) : Result := .next (ldReg .d .h s)
/-- LD D,L (R200). -/
def execLdD_L (s : State) : Result := .next (ldReg .d .l s)
/-- LD D,(HL) (R200). -/
def execLdD_HLm (s : State) : Result := .next (ldReg .d .hlm s)
/-- LD D,A (R200). -/
def execLdD_A (s : State) : Result := .next (ldReg .d .a s)
/-- LD E,B (R200). -/
def execLdE_B (s : State) : Result := .next (ldReg .e .b s)
/-- LD E,C (R200). -/
def execLdE_C (s : State) : Result := .next (ldReg .e .c s)
/-- LD E,D (R200). -/
def execLdE_D (s : State) : Result := .next (ldReg .e .d s)
/-- LD E,E (R200). -/
def execLdE_E (s : State) : Result := .next (ldReg .e .e s)
/-- LD E,H (R200). -/
def execLdE_H (s : State) : Result := .next (ldReg .e .h s)
/-- LD E,L (R200). -/
def execLdE_L (s : State) : Result := .next (ldReg .e .l s)
/-- LD E,(HL) (R200). -/
def execLdE_HLm (s : State) : Result := .next (ldReg .e .hlm s)
/-- LD E,A (R200). -/
def execLdE_A (s : State) : Result := .next (ldReg .e .a s)
/-- LD H,B (R200). -/
def execLdH_B (s : State) : Result := .next (ldReg .h .b s)
/-- LD H,C (R200). -/
def execLdH_C (s : State) : Result := .next (ldReg .h .c s)
/-- LD H,D (R200). -/
def execLdH_D (s : State) : Result := .next (ldReg .h .d s)
/-- LD H,E (R200). -/
def execLdH_E (s : State) : Result := .next (ldReg .h .e s)
/-- LD H,H (R200). -/
def execLdH_H (s : State) : Result := .next (ldReg .h .h s)
/-- LD H,L (R200). -/
def execLdH_L (s : State) : Result := .next (ldReg .h .l s)
/-- LD H,(HL) (R200). -/
def execLdH_HLm (s : State) : Result := .next (ldReg .h .hlm s)
/-- LD H,A (R200). -/
def execLdH_A (s : State) : Result := .next (ldReg .h .a s)
/-- LD L,B (R200). -/
def execLdL_B (s : State) : Result := .next (ldReg .l .b s)
/-- LD L,C (R200). -/
def execLdL_C (s : State) : Result := .next (ldReg .l .c s)
/-- LD L,D (R200). -/
def execLdL_D (s : State) : Result := .next (ldReg .l .d s)
/-- LD L,E (R200). -/
def execLdL_E (s : State) : Result := .next (ldReg .l .e s)
/-- LD L,H (R200). -/
def execLdL_H (s : State) : Result := .next (ldReg .l .h s)
/-- LD L,L (R200). -/
def execLdL_L (s : State) : Result := .next (ldReg .l .l s)
/-- LD L,(HL) (R200). -/
def execLdL_HLm (s : State) : Result := .next (ldReg .l .hlm s)
/-- LD L,A (R200). -/
def execLdL_A (s : State) : Result := .next (ldReg .l .a s)
/-- LD (HL),B (R200). -/
def execLdHLm_B (s : State) : Result := .next (ldReg .hlm .b s)
/-- LD (HL),C (R200). -/
def execLdHLm_C (s : State) : Result := .next (ldReg .hlm .c s)
/-- LD (HL),D (R200). -/
def execLdHLm_D (s : State) : Result := .next (ldReg .hlm .d s)
/-- LD (HL),E (R200). -/
def execLdHLm_E (s : State) : Result := .next (ldReg .hlm .e s)
/-- LD (HL),H (R200). -/
def execLdHLm_H (s : State) : Result := .next (ldReg .hlm .h s)
/-- LD (HL),L (R200). -/
def execLdHLm_L (s : State) : Result := .next (ldReg .hlm .l s)
/-- LD (HL),A (R200). -/
def execLdHLm_A (s : State) : Result := .next (ldReg .hlm .a s)
/-- LD A,B (R200). -/
def execLdA_B (s : State) : Result := .next (ldReg .a .b s)
/-- LD A,C (R200). -/
def execLdA_C (s : State) : Result := .next (ldReg .a .c s)
/-- LD A,D (R200). -/
def execLdA_D (s : State) : Result := .next (ldReg .a .d s)
/-- LD A,E (R200). -/
def execLdA_E (s : State) : Result := .next (ldReg .a .e s)
/-- LD A,H (R200). -/
def execLdA_H (s : State) : Result := .next (ldReg .a .h s)
/-- LD A,L (R200). -/
def execLdA_L (s : State) : Result := .next (ldReg .a .l s)
/-- LD A,(HL) (R200). -/
def execLdA_HLm (s : State) : Result := .next (ldReg .a .hlm s)
/-- LD A,A (R200). -/
def execLdA_A (s : State) : Result := .next (ldReg .a .a s)
/-- POP BC (R213). -/
def execPopBC (s : State) : Result := .next (popPair .bc s)
/-- PUSH BC (R214). -/
def execPushBC (s : State) : Result := .next (pushPair .bc s)
/-- POP DE (R213). -/
def execPopDE (s : State) : Result := .next (popPair .de s)
/-- PUSH DE (R214). -/
def execPushDE (s : State) : Result := .next (pushPair .de s)
/-- LDH (n8),A (R217). -/
def execLdhN8m_A (n : Byte) (s : State) : Result := .next (storeHigh n s)
/-- POP HL (R213). -/
def execPopHL (s : State) : Result := .next (popPair .hl s)
/-- LD (C),A (R219). -/
def execLdCm_A (s : State) : Result := .next (storeHighC s)
/-- PUSH HL (R214). -/
def execPushHL (s : State) : Result := .next (pushPair .hl s)
/-- LD (a16),A (R215). -/
def execLdA16m_A (a : Word) (s : State) : Result := .next (storeAbs a s)
/-- LDH A,(n8) (R218). -/
def execLdhA_N8m (n : Byte) (s : State) : Result := .next (loadHigh n s)
/-- POP AF (R213). -/
def execPopAF (s : State) : Result := .next (popPair .af s)
/-- LD A,(C) (R220). -/
def execLdA_Cm (s : State) : Result := .next (loadHighC s)
/-- PUSH AF (R214). -/
def execPushAF (s : State) : Result := .next (pushPair .af s)
/-- LD SP,HL (R222). -/
def execLdSP_HL (s : State) : Result := .next (ldSpHl s)
/-- LD A,(a16) (R216). -/
def execLdA_A16m (a : Word) (s : State) : Result := .next (loadAbs a s)

end Sys2Proof.Machine
end

