-- ==== Sys2Proof/Machine/CbPage.lean ====
section
/-! DEFINITION. The CB page (45_cb.md, R400 to R412, and R368): the shared operations, then one meaning per row. A meaning
runs after the prefix and the second byte are fetched. -/

namespace Sys2Proof.Machine

/-- The rotates, shifts and SWAP: Z from the result, N and H cleared (R401 to R408). -/
def rotReg (op : RotOp) (r : R8) (s : State) : State :=
  let (v, s1) := readR8 r s
  let res := rotResult op v (flagC s)
  setFlags (some (res == 0)) (some false) (some false) (some (rotCarry op v)) (writeR8 r res s1)

/-- `BIT b,r`: nothing but flags is written, and C is kept (R409). -/
def bitReg (b : BitVec 3) (r : R8) (s : State) : State :=
  let (v, s1) := readR8 r s
  setFlags (some (!v.getLsbD b.toNat)) (some false) (some true) none s1

/-- `RES b,r` (R410). -/
def resReg (b : BitVec 3) (r : R8) (s : State) : State :=
  let (v, s1) := readR8 r s
  writeR8 r (v &&& ~~~(1#8 <<< b.toNat)) s1

/-- `SET b,r` (R411). -/
def setReg (b : BitVec 3) (r : R8) (s : State) : State :=
  let (v, s1) := readR8 r s
  writeR8 r (v ||| (1#8 <<< b.toNat)) s1

/-- A CB opcode under the two settings of `CB_IMPL` (R367): its operation, or the diagnostic no-op of R368, whose address is
that of the 0xCB byte, two before PC. -/
def cbGate (cbop : Byte) (op : State → State) (s : State) : State :=
  if s.config.cbImpl = .full then op s
  else emit [⟨.cbUnimplemented, s.cpu.pc - 2, cbop⟩] s

/-- The operand a register index selects (R36). -/
def r8OfIndex (z : BitVec 3) : R8 :=
  match z with
  | 0 => .b | 1 => .c | 2 => .d | 3 => .e | 4 => .h | 5 => .l | 6 => .hlm | 7 => .a

/-- The operation of `x = 0` (R400). -/
def rotOfIndex (y : BitVec 3) : RotOp :=
  match y with
  | 0 => .rlc | 1 => .rrc | 2 => .rl | 3 => .rr | 4 => .sla | 5 => .sra | 6 => .swap | 7 => .srl

/-- The operation of a CB byte by its fields `x`, `y`, `z` (R400). -/
def cbOperation (cbop : Byte) : State → State :=
  let y := cbop.extractLsb' 3 3
  let r := r8OfIndex (cbop.extractLsb' 0 3)
  match cbop.extractLsb' 6 2 with
  | 0 => rotReg (rotOfIndex y) r
  | 1 => bitReg y r
  | 2 => resReg y r
  | 3 => setReg y r

/-- RLC B (R401 or R368). -/
def execRlc_B (s : State) : Result := .next (cbGate 0x00 (rotReg .rlc .b) s)
/-- RLC C (R401 or R368). -/
def execRlc_C (s : State) : Result := .next (cbGate 0x01 (rotReg .rlc .c) s)
/-- RLC D (R401 or R368). -/
def execRlc_D (s : State) : Result := .next (cbGate 0x02 (rotReg .rlc .d) s)
/-- RLC E (R401 or R368). -/
def execRlc_E (s : State) : Result := .next (cbGate 0x03 (rotReg .rlc .e) s)
/-- RLC H (R401 or R368). -/
def execRlc_H (s : State) : Result := .next (cbGate 0x04 (rotReg .rlc .h) s)
/-- RLC L (R401 or R368). -/
def execRlc_L (s : State) : Result := .next (cbGate 0x05 (rotReg .rlc .l) s)
/-- RLC (HL) (R401 or R368). -/
def execRlc_HLm (s : State) : Result := .next (cbGate 0x06 (rotReg .rlc .hlm) s)
/-- RLC A (R401 or R368). -/
def execRlc_A (s : State) : Result := .next (cbGate 0x07 (rotReg .rlc .a) s)
/-- RRC B (R402 or R368). -/
def execRrc_B (s : State) : Result := .next (cbGate 0x08 (rotReg .rrc .b) s)
/-- RRC C (R402 or R368). -/
def execRrc_C (s : State) : Result := .next (cbGate 0x09 (rotReg .rrc .c) s)
/-- RRC D (R402 or R368). -/
def execRrc_D (s : State) : Result := .next (cbGate 0x0A (rotReg .rrc .d) s)
/-- RRC E (R402 or R368). -/
def execRrc_E (s : State) : Result := .next (cbGate 0x0B (rotReg .rrc .e) s)
/-- RRC H (R402 or R368). -/
def execRrc_H (s : State) : Result := .next (cbGate 0x0C (rotReg .rrc .h) s)
/-- RRC L (R402 or R368). -/
def execRrc_L (s : State) : Result := .next (cbGate 0x0D (rotReg .rrc .l) s)
/-- RRC (HL) (R402 or R368). -/
def execRrc_HLm (s : State) : Result := .next (cbGate 0x0E (rotReg .rrc .hlm) s)
/-- RRC A (R402 or R368). -/
def execRrc_A (s : State) : Result := .next (cbGate 0x0F (rotReg .rrc .a) s)
/-- RL B (R403 or R368). -/
def execRl_B (s : State) : Result := .next (cbGate 0x10 (rotReg .rl .b) s)
/-- RL C (R403 or R368). -/
def execRl_C (s : State) : Result := .next (cbGate 0x11 (rotReg .rl .c) s)
/-- RL D (R403 or R368). -/
def execRl_D (s : State) : Result := .next (cbGate 0x12 (rotReg .rl .d) s)
/-- RL E (R403 or R368). -/
def execRl_E (s : State) : Result := .next (cbGate 0x13 (rotReg .rl .e) s)
/-- RL H (R403 or R368). -/
def execRl_H (s : State) : Result := .next (cbGate 0x14 (rotReg .rl .h) s)
/-- RL L (R403 or R368). -/
def execRl_L (s : State) : Result := .next (cbGate 0x15 (rotReg .rl .l) s)
/-- RL (HL) (R403 or R368). -/
def execRl_HLm (s : State) : Result := .next (cbGate 0x16 (rotReg .rl .hlm) s)
/-- RL A (R403 or R368). -/
def execRl_A (s : State) : Result := .next (cbGate 0x17 (rotReg .rl .a) s)
/-- RR B (R404 or R368). -/
def execRr_B (s : State) : Result := .next (cbGate 0x18 (rotReg .rr .b) s)
/-- RR C (R404 or R368). -/
def execRr_C (s : State) : Result := .next (cbGate 0x19 (rotReg .rr .c) s)
/-- RR D (R404 or R368). -/
def execRr_D (s : State) : Result := .next (cbGate 0x1A (rotReg .rr .d) s)
/-- RR E (R404 or R368). -/
def execRr_E (s : State) : Result := .next (cbGate 0x1B (rotReg .rr .e) s)
/-- RR H (R404 or R368). -/
def execRr_H (s : State) : Result := .next (cbGate 0x1C (rotReg .rr .h) s)
/-- RR L (R404 or R368). -/
def execRr_L (s : State) : Result := .next (cbGate 0x1D (rotReg .rr .l) s)
/-- RR (HL) (R404 or R368). -/
def execRr_HLm (s : State) : Result := .next (cbGate 0x1E (rotReg .rr .hlm) s)
/-- RR A (R404 or R368). -/
def execRr_A (s : State) : Result := .next (cbGate 0x1F (rotReg .rr .a) s)
/-- SLA B (R405 or R368). -/
def execSla_B (s : State) : Result := .next (cbGate 0x20 (rotReg .sla .b) s)
/-- SLA C (R405 or R368). -/
def execSla_C (s : State) : Result := .next (cbGate 0x21 (rotReg .sla .c) s)
/-- SLA D (R405 or R368). -/
def execSla_D (s : State) : Result := .next (cbGate 0x22 (rotReg .sla .d) s)
/-- SLA E (R405 or R368). -/
def execSla_E (s : State) : Result := .next (cbGate 0x23 (rotReg .sla .e) s)
/-- SLA H (R405 or R368). -/
def execSla_H (s : State) : Result := .next (cbGate 0x24 (rotReg .sla .h) s)
/-- SLA L (R405 or R368). -/
def execSla_L (s : State) : Result := .next (cbGate 0x25 (rotReg .sla .l) s)
/-- SLA (HL) (R405 or R368). -/
def execSla_HLm (s : State) : Result := .next (cbGate 0x26 (rotReg .sla .hlm) s)
/-- SLA A (R405 or R368). -/
def execSla_A (s : State) : Result := .next (cbGate 0x27 (rotReg .sla .a) s)
/-- SRA B (R406 or R368). -/
def execSra_B (s : State) : Result := .next (cbGate 0x28 (rotReg .sra .b) s)
/-- SRA C (R406 or R368). -/
def execSra_C (s : State) : Result := .next (cbGate 0x29 (rotReg .sra .c) s)
/-- SRA D (R406 or R368). -/
def execSra_D (s : State) : Result := .next (cbGate 0x2A (rotReg .sra .d) s)
/-- SRA E (R406 or R368). -/
def execSra_E (s : State) : Result := .next (cbGate 0x2B (rotReg .sra .e) s)
/-- SRA H (R406 or R368). -/
def execSra_H (s : State) : Result := .next (cbGate 0x2C (rotReg .sra .h) s)
/-- SRA L (R406 or R368). -/
def execSra_L (s : State) : Result := .next (cbGate 0x2D (rotReg .sra .l) s)
/-- SRA (HL) (R406 or R368). -/
def execSra_HLm (s : State) : Result := .next (cbGate 0x2E (rotReg .sra .hlm) s)
/-- SRA A (R406 or R368). -/
def execSra_A (s : State) : Result := .next (cbGate 0x2F (rotReg .sra .a) s)
/-- SWAP B (R407 or R368). -/
def execSwap_B (s : State) : Result := .next (cbGate 0x30 (rotReg .swap .b) s)
/-- SWAP C (R407 or R368). -/
def execSwap_C (s : State) : Result := .next (cbGate 0x31 (rotReg .swap .c) s)
/-- SWAP D (R407 or R368). -/
def execSwap_D (s : State) : Result := .next (cbGate 0x32 (rotReg .swap .d) s)
/-- SWAP E (R407 or R368). -/
def execSwap_E (s : State) : Result := .next (cbGate 0x33 (rotReg .swap .e) s)
/-- SWAP H (R407 or R368). -/
def execSwap_H (s : State) : Result := .next (cbGate 0x34 (rotReg .swap .h) s)
/-- SWAP L (R407 or R368). -/
def execSwap_L (s : State) : Result := .next (cbGate 0x35 (rotReg .swap .l) s)
/-- SWAP (HL) (R407 or R368). -/
def execSwap_HLm (s : State) : Result := .next (cbGate 0x36 (rotReg .swap .hlm) s)
/-- SWAP A (R407 or R368). -/
def execSwap_A (s : State) : Result := .next (cbGate 0x37 (rotReg .swap .a) s)
/-- SRL B (R408 or R368). -/
def execSrl_B (s : State) : Result := .next (cbGate 0x38 (rotReg .srl .b) s)
/-- SRL C (R408 or R368). -/
def execSrl_C (s : State) : Result := .next (cbGate 0x39 (rotReg .srl .c) s)
/-- SRL D (R408 or R368). -/
def execSrl_D (s : State) : Result := .next (cbGate 0x3A (rotReg .srl .d) s)
/-- SRL E (R408 or R368). -/
def execSrl_E (s : State) : Result := .next (cbGate 0x3B (rotReg .srl .e) s)
/-- SRL H (R408 or R368). -/
def execSrl_H (s : State) : Result := .next (cbGate 0x3C (rotReg .srl .h) s)
/-- SRL L (R408 or R368). -/
def execSrl_L (s : State) : Result := .next (cbGate 0x3D (rotReg .srl .l) s)
/-- SRL (HL) (R408 or R368). -/
def execSrl_HLm (s : State) : Result := .next (cbGate 0x3E (rotReg .srl .hlm) s)
/-- SRL A (R408 or R368). -/
def execSrl_A (s : State) : Result := .next (cbGate 0x3F (rotReg .srl .a) s)
/-- BIT 0,B (R409 or R368). -/
def execBit0_B (s : State) : Result := .next (cbGate 0x40 (bitReg 0 .b) s)
/-- BIT 0,C (R409 or R368). -/
def execBit0_C (s : State) : Result := .next (cbGate 0x41 (bitReg 0 .c) s)
/-- BIT 0,D (R409 or R368). -/
def execBit0_D (s : State) : Result := .next (cbGate 0x42 (bitReg 0 .d) s)
/-- BIT 0,E (R409 or R368). -/
def execBit0_E (s : State) : Result := .next (cbGate 0x43 (bitReg 0 .e) s)
/-- BIT 0,H (R409 or R368). -/
def execBit0_H (s : State) : Result := .next (cbGate 0x44 (bitReg 0 .h) s)
/-- BIT 0,L (R409 or R368). -/
def execBit0_L (s : State) : Result := .next (cbGate 0x45 (bitReg 0 .l) s)
/-- BIT 0,(HL) (R409 or R368). -/
def execBit0_HLm (s : State) : Result := .next (cbGate 0x46 (bitReg 0 .hlm) s)
/-- BIT 0,A (R409 or R368). -/
def execBit0_A (s : State) : Result := .next (cbGate 0x47 (bitReg 0 .a) s)
/-- BIT 1,B (R409 or R368). -/
def execBit1_B (s : State) : Result := .next (cbGate 0x48 (bitReg 1 .b) s)
/-- BIT 1,C (R409 or R368). -/
def execBit1_C (s : State) : Result := .next (cbGate 0x49 (bitReg 1 .c) s)
/-- BIT 1,D (R409 or R368). -/
def execBit1_D (s : State) : Result := .next (cbGate 0x4A (bitReg 1 .d) s)
/-- BIT 1,E (R409 or R368). -/
def execBit1_E (s : State) : Result := .next (cbGate 0x4B (bitReg 1 .e) s)
/-- BIT 1,H (R409 or R368). -/
def execBit1_H (s : State) : Result := .next (cbGate 0x4C (bitReg 1 .h) s)
/-- BIT 1,L (R409 or R368). -/
def execBit1_L (s : State) : Result := .next (cbGate 0x4D (bitReg 1 .l) s)
/-- BIT 1,(HL) (R409 or R368). -/
def execBit1_HLm (s : State) : Result := .next (cbGate 0x4E (bitReg 1 .hlm) s)
/-- BIT 1,A (R409 or R368). -/
def execBit1_A (s : State) : Result := .next (cbGate 0x4F (bitReg 1 .a) s)
/-- BIT 2,B (R409 or R368). -/
def execBit2_B (s : State) : Result := .next (cbGate 0x50 (bitReg 2 .b) s)
/-- BIT 2,C (R409 or R368). -/
def execBit2_C (s : State) : Result := .next (cbGate 0x51 (bitReg 2 .c) s)
/-- BIT 2,D (R409 or R368). -/
def execBit2_D (s : State) : Result := .next (cbGate 0x52 (bitReg 2 .d) s)
/-- BIT 2,E (R409 or R368). -/
def execBit2_E (s : State) : Result := .next (cbGate 0x53 (bitReg 2 .e) s)
/-- BIT 2,H (R409 or R368). -/
def execBit2_H (s : State) : Result := .next (cbGate 0x54 (bitReg 2 .h) s)
/-- BIT 2,L (R409 or R368). -/
def execBit2_L (s : State) : Result := .next (cbGate 0x55 (bitReg 2 .l) s)
/-- BIT 2,(HL) (R409 or R368). -/
def execBit2_HLm (s : State) : Result := .next (cbGate 0x56 (bitReg 2 .hlm) s)
/-- BIT 2,A (R409 or R368). -/
def execBit2_A (s : State) : Result := .next (cbGate 0x57 (bitReg 2 .a) s)
/-- BIT 3,B (R409 or R368). -/
def execBit3_B (s : State) : Result := .next (cbGate 0x58 (bitReg 3 .b) s)
/-- BIT 3,C (R409 or R368). -/
def execBit3_C (s : State) : Result := .next (cbGate 0x59 (bitReg 3 .c) s)
/-- BIT 3,D (R409 or R368). -/
def execBit3_D (s : State) : Result := .next (cbGate 0x5A (bitReg 3 .d) s)
/-- BIT 3,E (R409 or R368). -/
def execBit3_E (s : State) : Result := .next (cbGate 0x5B (bitReg 3 .e) s)
/-- BIT 3,H (R409 or R368). -/
def execBit3_H (s : State) : Result := .next (cbGate 0x5C (bitReg 3 .h) s)
/-- BIT 3,L (R409 or R368). -/
def execBit3_L (s : State) : Result := .next (cbGate 0x5D (bitReg 3 .l) s)
/-- BIT 3,(HL) (R409 or R368). -/
def execBit3_HLm (s : State) : Result := .next (cbGate 0x5E (bitReg 3 .hlm) s)
/-- BIT 3,A (R409 or R368). -/
def execBit3_A (s : State) : Result := .next (cbGate 0x5F (bitReg 3 .a) s)
/-- BIT 4,B (R409 or R368). -/
def execBit4_B (s : State) : Result := .next (cbGate 0x60 (bitReg 4 .b) s)
/-- BIT 4,C (R409 or R368). -/
def execBit4_C (s : State) : Result := .next (cbGate 0x61 (bitReg 4 .c) s)
/-- BIT 4,D (R409 or R368). -/
def execBit4_D (s : State) : Result := .next (cbGate 0x62 (bitReg 4 .d) s)
/-- BIT 4,E (R409 or R368). -/
def execBit4_E (s : State) : Result := .next (cbGate 0x63 (bitReg 4 .e) s)
/-- BIT 4,H (R409 or R368). -/
def execBit4_H (s : State) : Result := .next (cbGate 0x64 (bitReg 4 .h) s)
/-- BIT 4,L (R409 or R368). -/
def execBit4_L (s : State) : Result := .next (cbGate 0x65 (bitReg 4 .l) s)
/-- BIT 4,(HL) (R409 or R368). -/
def execBit4_HLm (s : State) : Result := .next (cbGate 0x66 (bitReg 4 .hlm) s)
/-- BIT 4,A (R409 or R368). -/
def execBit4_A (s : State) : Result := .next (cbGate 0x67 (bitReg 4 .a) s)
/-- BIT 5,B (R409 or R368). -/
def execBit5_B (s : State) : Result := .next (cbGate 0x68 (bitReg 5 .b) s)
/-- BIT 5,C (R409 or R368). -/
def execBit5_C (s : State) : Result := .next (cbGate 0x69 (bitReg 5 .c) s)
/-- BIT 5,D (R409 or R368). -/
def execBit5_D (s : State) : Result := .next (cbGate 0x6A (bitReg 5 .d) s)
/-- BIT 5,E (R409 or R368). -/
def execBit5_E (s : State) : Result := .next (cbGate 0x6B (bitReg 5 .e) s)
/-- BIT 5,H (R409 or R368). -/
def execBit5_H (s : State) : Result := .next (cbGate 0x6C (bitReg 5 .h) s)
/-- BIT 5,L (R409 or R368). -/
def execBit5_L (s : State) : Result := .next (cbGate 0x6D (bitReg 5 .l) s)
/-- BIT 5,(HL) (R409 or R368). -/
def execBit5_HLm (s : State) : Result := .next (cbGate 0x6E (bitReg 5 .hlm) s)
/-- BIT 5,A (R409 or R368). -/
def execBit5_A (s : State) : Result := .next (cbGate 0x6F (bitReg 5 .a) s)
/-- BIT 6,B (R409 or R368). -/
def execBit6_B (s : State) : Result := .next (cbGate 0x70 (bitReg 6 .b) s)
/-- BIT 6,C (R409 or R368). -/
def execBit6_C (s : State) : Result := .next (cbGate 0x71 (bitReg 6 .c) s)
/-- BIT 6,D (R409 or R368). -/
def execBit6_D (s : State) : Result := .next (cbGate 0x72 (bitReg 6 .d) s)
/-- BIT 6,E (R409 or R368). -/
def execBit6_E (s : State) : Result := .next (cbGate 0x73 (bitReg 6 .e) s)
/-- BIT 6,H (R409 or R368). -/
def execBit6_H (s : State) : Result := .next (cbGate 0x74 (bitReg 6 .h) s)
/-- BIT 6,L (R409 or R368). -/
def execBit6_L (s : State) : Result := .next (cbGate 0x75 (bitReg 6 .l) s)
/-- BIT 6,(HL) (R409 or R368). -/
def execBit6_HLm (s : State) : Result := .next (cbGate 0x76 (bitReg 6 .hlm) s)
/-- BIT 6,A (R409 or R368). -/
def execBit6_A (s : State) : Result := .next (cbGate 0x77 (bitReg 6 .a) s)
/-- BIT 7,B (R409 or R368). -/
def execBit7_B (s : State) : Result := .next (cbGate 0x78 (bitReg 7 .b) s)
/-- BIT 7,C (R409 or R368). -/
def execBit7_C (s : State) : Result := .next (cbGate 0x79 (bitReg 7 .c) s)
/-- BIT 7,D (R409 or R368). -/
def execBit7_D (s : State) : Result := .next (cbGate 0x7A (bitReg 7 .d) s)
/-- BIT 7,E (R409 or R368). -/
def execBit7_E (s : State) : Result := .next (cbGate 0x7B (bitReg 7 .e) s)
/-- BIT 7,H (R409 or R368). -/
def execBit7_H (s : State) : Result := .next (cbGate 0x7C (bitReg 7 .h) s)
/-- BIT 7,L (R409 or R368). -/
def execBit7_L (s : State) : Result := .next (cbGate 0x7D (bitReg 7 .l) s)
/-- BIT 7,(HL) (R409 or R368). -/
def execBit7_HLm (s : State) : Result := .next (cbGate 0x7E (bitReg 7 .hlm) s)
/-- BIT 7,A (R409 or R368). -/
def execBit7_A (s : State) : Result := .next (cbGate 0x7F (bitReg 7 .a) s)
/-- RES 0,B (R410 or R368). -/
def execRes0_B (s : State) : Result := .next (cbGate 0x80 (resReg 0 .b) s)
/-- RES 0,C (R410 or R368). -/
def execRes0_C (s : State) : Result := .next (cbGate 0x81 (resReg 0 .c) s)
/-- RES 0,D (R410 or R368). -/
def execRes0_D (s : State) : Result := .next (cbGate 0x82 (resReg 0 .d) s)
/-- RES 0,E (R410 or R368). -/
def execRes0_E (s : State) : Result := .next (cbGate 0x83 (resReg 0 .e) s)
/-- RES 0,H (R410 or R368). -/
def execRes0_H (s : State) : Result := .next (cbGate 0x84 (resReg 0 .h) s)
/-- RES 0,L (R410 or R368). -/
def execRes0_L (s : State) : Result := .next (cbGate 0x85 (resReg 0 .l) s)
/-- RES 0,(HL) (R410 or R368). -/
def execRes0_HLm (s : State) : Result := .next (cbGate 0x86 (resReg 0 .hlm) s)
/-- RES 0,A (R410 or R368). -/
def execRes0_A (s : State) : Result := .next (cbGate 0x87 (resReg 0 .a) s)
/-- RES 1,B (R410 or R368). -/
def execRes1_B (s : State) : Result := .next (cbGate 0x88 (resReg 1 .b) s)
/-- RES 1,C (R410 or R368). -/
def execRes1_C (s : State) : Result := .next (cbGate 0x89 (resReg 1 .c) s)
/-- RES 1,D (R410 or R368). -/
def execRes1_D (s : State) : Result := .next (cbGate 0x8A (resReg 1 .d) s)
/-- RES 1,E (R410 or R368). -/
def execRes1_E (s : State) : Result := .next (cbGate 0x8B (resReg 1 .e) s)
/-- RES 1,H (R410 or R368). -/
def execRes1_H (s : State) : Result := .next (cbGate 0x8C (resReg 1 .h) s)
/-- RES 1,L (R410 or R368). -/
def execRes1_L (s : State) : Result := .next (cbGate 0x8D (resReg 1 .l) s)
/-- RES 1,(HL) (R410 or R368). -/
def execRes1_HLm (s : State) : Result := .next (cbGate 0x8E (resReg 1 .hlm) s)
/-- RES 1,A (R410 or R368). -/
def execRes1_A (s : State) : Result := .next (cbGate 0x8F (resReg 1 .a) s)
/-- RES 2,B (R410 or R368). -/
def execRes2_B (s : State) : Result := .next (cbGate 0x90 (resReg 2 .b) s)
/-- RES 2,C (R410 or R368). -/
def execRes2_C (s : State) : Result := .next (cbGate 0x91 (resReg 2 .c) s)
/-- RES 2,D (R410 or R368). -/
def execRes2_D (s : State) : Result := .next (cbGate 0x92 (resReg 2 .d) s)
/-- RES 2,E (R410 or R368). -/
def execRes2_E (s : State) : Result := .next (cbGate 0x93 (resReg 2 .e) s)
/-- RES 2,H (R410 or R368). -/
def execRes2_H (s : State) : Result := .next (cbGate 0x94 (resReg 2 .h) s)
/-- RES 2,L (R410 or R368). -/
def execRes2_L (s : State) : Result := .next (cbGate 0x95 (resReg 2 .l) s)
/-- RES 2,(HL) (R410 or R368). -/
def execRes2_HLm (s : State) : Result := .next (cbGate 0x96 (resReg 2 .hlm) s)
/-- RES 2,A (R410 or R368). -/
def execRes2_A (s : State) : Result := .next (cbGate 0x97 (resReg 2 .a) s)
/-- RES 3,B (R410 or R368). -/
def execRes3_B (s : State) : Result := .next (cbGate 0x98 (resReg 3 .b) s)
/-- RES 3,C (R410 or R368). -/
def execRes3_C (s : State) : Result := .next (cbGate 0x99 (resReg 3 .c) s)
/-- RES 3,D (R410 or R368). -/
def execRes3_D (s : State) : Result := .next (cbGate 0x9A (resReg 3 .d) s)
/-- RES 3,E (R410 or R368). -/
def execRes3_E (s : State) : Result := .next (cbGate 0x9B (resReg 3 .e) s)
/-- RES 3,H (R410 or R368). -/
def execRes3_H (s : State) : Result := .next (cbGate 0x9C (resReg 3 .h) s)
/-- RES 3,L (R410 or R368). -/
def execRes3_L (s : State) : Result := .next (cbGate 0x9D (resReg 3 .l) s)
/-- RES 3,(HL) (R410 or R368). -/
def execRes3_HLm (s : State) : Result := .next (cbGate 0x9E (resReg 3 .hlm) s)
/-- RES 3,A (R410 or R368). -/
def execRes3_A (s : State) : Result := .next (cbGate 0x9F (resReg 3 .a) s)
/-- RES 4,B (R410 or R368). -/
def execRes4_B (s : State) : Result := .next (cbGate 0xA0 (resReg 4 .b) s)
/-- RES 4,C (R410 or R368). -/
def execRes4_C (s : State) : Result := .next (cbGate 0xA1 (resReg 4 .c) s)
/-- RES 4,D (R410 or R368). -/
def execRes4_D (s : State) : Result := .next (cbGate 0xA2 (resReg 4 .d) s)
/-- RES 4,E (R410 or R368). -/
def execRes4_E (s : State) : Result := .next (cbGate 0xA3 (resReg 4 .e) s)
/-- RES 4,H (R410 or R368). -/
def execRes4_H (s : State) : Result := .next (cbGate 0xA4 (resReg 4 .h) s)
/-- RES 4,L (R410 or R368). -/
def execRes4_L (s : State) : Result := .next (cbGate 0xA5 (resReg 4 .l) s)
/-- RES 4,(HL) (R410 or R368). -/
def execRes4_HLm (s : State) : Result := .next (cbGate 0xA6 (resReg 4 .hlm) s)
/-- RES 4,A (R410 or R368). -/
def execRes4_A (s : State) : Result := .next (cbGate 0xA7 (resReg 4 .a) s)
/-- RES 5,B (R410 or R368). -/
def execRes5_B (s : State) : Result := .next (cbGate 0xA8 (resReg 5 .b) s)
/-- RES 5,C (R410 or R368). -/
def execRes5_C (s : State) : Result := .next (cbGate 0xA9 (resReg 5 .c) s)
/-- RES 5,D (R410 or R368). -/
def execRes5_D (s : State) : Result := .next (cbGate 0xAA (resReg 5 .d) s)
/-- RES 5,E (R410 or R368). -/
def execRes5_E (s : State) : Result := .next (cbGate 0xAB (resReg 5 .e) s)
/-- RES 5,H (R410 or R368). -/
def execRes5_H (s : State) : Result := .next (cbGate 0xAC (resReg 5 .h) s)
/-- RES 5,L (R410 or R368). -/
def execRes5_L (s : State) : Result := .next (cbGate 0xAD (resReg 5 .l) s)
/-- RES 5,(HL) (R410 or R368). -/
def execRes5_HLm (s : State) : Result := .next (cbGate 0xAE (resReg 5 .hlm) s)
/-- RES 5,A (R410 or R368). -/
def execRes5_A (s : State) : Result := .next (cbGate 0xAF (resReg 5 .a) s)
/-- RES 6,B (R410 or R368). -/
def execRes6_B (s : State) : Result := .next (cbGate 0xB0 (resReg 6 .b) s)
/-- RES 6,C (R410 or R368). -/
def execRes6_C (s : State) : Result := .next (cbGate 0xB1 (resReg 6 .c) s)
/-- RES 6,D (R410 or R368). -/
def execRes6_D (s : State) : Result := .next (cbGate 0xB2 (resReg 6 .d) s)
/-- RES 6,E (R410 or R368). -/
def execRes6_E (s : State) : Result := .next (cbGate 0xB3 (resReg 6 .e) s)
/-- RES 6,H (R410 or R368). -/
def execRes6_H (s : State) : Result := .next (cbGate 0xB4 (resReg 6 .h) s)
/-- RES 6,L (R410 or R368). -/
def execRes6_L (s : State) : Result := .next (cbGate 0xB5 (resReg 6 .l) s)
/-- RES 6,(HL) (R410 or R368). -/
def execRes6_HLm (s : State) : Result := .next (cbGate 0xB6 (resReg 6 .hlm) s)
/-- RES 6,A (R410 or R368). -/
def execRes6_A (s : State) : Result := .next (cbGate 0xB7 (resReg 6 .a) s)
/-- RES 7,B (R410 or R368). -/
def execRes7_B (s : State) : Result := .next (cbGate 0xB8 (resReg 7 .b) s)
/-- RES 7,C (R410 or R368). -/
def execRes7_C (s : State) : Result := .next (cbGate 0xB9 (resReg 7 .c) s)
/-- RES 7,D (R410 or R368). -/
def execRes7_D (s : State) : Result := .next (cbGate 0xBA (resReg 7 .d) s)
/-- RES 7,E (R410 or R368). -/
def execRes7_E (s : State) : Result := .next (cbGate 0xBB (resReg 7 .e) s)
/-- RES 7,H (R410 or R368). -/
def execRes7_H (s : State) : Result := .next (cbGate 0xBC (resReg 7 .h) s)
/-- RES 7,L (R410 or R368). -/
def execRes7_L (s : State) : Result := .next (cbGate 0xBD (resReg 7 .l) s)
/-- RES 7,(HL) (R410 or R368). -/
def execRes7_HLm (s : State) : Result := .next (cbGate 0xBE (resReg 7 .hlm) s)
/-- RES 7,A (R410 or R368). -/
def execRes7_A (s : State) : Result := .next (cbGate 0xBF (resReg 7 .a) s)
/-- SET 0,B (R411 or R368). -/
def execSet0_B (s : State) : Result := .next (cbGate 0xC0 (setReg 0 .b) s)
/-- SET 0,C (R411 or R368). -/
def execSet0_C (s : State) : Result := .next (cbGate 0xC1 (setReg 0 .c) s)
/-- SET 0,D (R411 or R368). -/
def execSet0_D (s : State) : Result := .next (cbGate 0xC2 (setReg 0 .d) s)
/-- SET 0,E (R411 or R368). -/
def execSet0_E (s : State) : Result := .next (cbGate 0xC3 (setReg 0 .e) s)
/-- SET 0,H (R411 or R368). -/
def execSet0_H (s : State) : Result := .next (cbGate 0xC4 (setReg 0 .h) s)
/-- SET 0,L (R411 or R368). -/
def execSet0_L (s : State) : Result := .next (cbGate 0xC5 (setReg 0 .l) s)
/-- SET 0,(HL) (R411 or R368). -/
def execSet0_HLm (s : State) : Result := .next (cbGate 0xC6 (setReg 0 .hlm) s)
/-- SET 0,A (R411 or R368). -/
def execSet0_A (s : State) : Result := .next (cbGate 0xC7 (setReg 0 .a) s)
/-- SET 1,B (R411 or R368). -/
def execSet1_B (s : State) : Result := .next (cbGate 0xC8 (setReg 1 .b) s)
/-- SET 1,C (R411 or R368). -/
def execSet1_C (s : State) : Result := .next (cbGate 0xC9 (setReg 1 .c) s)
/-- SET 1,D (R411 or R368). -/
def execSet1_D (s : State) : Result := .next (cbGate 0xCA (setReg 1 .d) s)
/-- SET 1,E (R411 or R368). -/
def execSet1_E (s : State) : Result := .next (cbGate 0xCB (setReg 1 .e) s)
/-- SET 1,H (R411 or R368). -/
def execSet1_H (s : State) : Result := .next (cbGate 0xCC (setReg 1 .h) s)
/-- SET 1,L (R411 or R368). -/
def execSet1_L (s : State) : Result := .next (cbGate 0xCD (setReg 1 .l) s)
/-- SET 1,(HL) (R411 or R368). -/
def execSet1_HLm (s : State) : Result := .next (cbGate 0xCE (setReg 1 .hlm) s)
/-- SET 1,A (R411 or R368). -/
def execSet1_A (s : State) : Result := .next (cbGate 0xCF (setReg 1 .a) s)
/-- SET 2,B (R411 or R368). -/
def execSet2_B (s : State) : Result := .next (cbGate 0xD0 (setReg 2 .b) s)
/-- SET 2,C (R411 or R368). -/
def execSet2_C (s : State) : Result := .next (cbGate 0xD1 (setReg 2 .c) s)
/-- SET 2,D (R411 or R368). -/
def execSet2_D (s : State) : Result := .next (cbGate 0xD2 (setReg 2 .d) s)
/-- SET 2,E (R411 or R368). -/
def execSet2_E (s : State) : Result := .next (cbGate 0xD3 (setReg 2 .e) s)
/-- SET 2,H (R411 or R368). -/
def execSet2_H (s : State) : Result := .next (cbGate 0xD4 (setReg 2 .h) s)
/-- SET 2,L (R411 or R368). -/
def execSet2_L (s : State) : Result := .next (cbGate 0xD5 (setReg 2 .l) s)
/-- SET 2,(HL) (R411 or R368). -/
def execSet2_HLm (s : State) : Result := .next (cbGate 0xD6 (setReg 2 .hlm) s)
/-- SET 2,A (R411 or R368). -/
def execSet2_A (s : State) : Result := .next (cbGate 0xD7 (setReg 2 .a) s)
/-- SET 3,B (R411 or R368). -/
def execSet3_B (s : State) : Result := .next (cbGate 0xD8 (setReg 3 .b) s)
/-- SET 3,C (R411 or R368). -/
def execSet3_C (s : State) : Result := .next (cbGate 0xD9 (setReg 3 .c) s)
/-- SET 3,D (R411 or R368). -/
def execSet3_D (s : State) : Result := .next (cbGate 0xDA (setReg 3 .d) s)
/-- SET 3,E (R411 or R368). -/
def execSet3_E (s : State) : Result := .next (cbGate 0xDB (setReg 3 .e) s)
/-- SET 3,H (R411 or R368). -/
def execSet3_H (s : State) : Result := .next (cbGate 0xDC (setReg 3 .h) s)
/-- SET 3,L (R411 or R368). -/
def execSet3_L (s : State) : Result := .next (cbGate 0xDD (setReg 3 .l) s)
/-- SET 3,(HL) (R411 or R368). -/
def execSet3_HLm (s : State) : Result := .next (cbGate 0xDE (setReg 3 .hlm) s)
/-- SET 3,A (R411 or R368). -/
def execSet3_A (s : State) : Result := .next (cbGate 0xDF (setReg 3 .a) s)
/-- SET 4,B (R411 or R368). -/
def execSet4_B (s : State) : Result := .next (cbGate 0xE0 (setReg 4 .b) s)
/-- SET 4,C (R411 or R368). -/
def execSet4_C (s : State) : Result := .next (cbGate 0xE1 (setReg 4 .c) s)
/-- SET 4,D (R411 or R368). -/
def execSet4_D (s : State) : Result := .next (cbGate 0xE2 (setReg 4 .d) s)
/-- SET 4,E (R411 or R368). -/
def execSet4_E (s : State) : Result := .next (cbGate 0xE3 (setReg 4 .e) s)
/-- SET 4,H (R411 or R368). -/
def execSet4_H (s : State) : Result := .next (cbGate 0xE4 (setReg 4 .h) s)
/-- SET 4,L (R411 or R368). -/
def execSet4_L (s : State) : Result := .next (cbGate 0xE5 (setReg 4 .l) s)
/-- SET 4,(HL) (R411 or R368). -/
def execSet4_HLm (s : State) : Result := .next (cbGate 0xE6 (setReg 4 .hlm) s)
/-- SET 4,A (R411 or R368). -/
def execSet4_A (s : State) : Result := .next (cbGate 0xE7 (setReg 4 .a) s)
/-- SET 5,B (R411 or R368). -/
def execSet5_B (s : State) : Result := .next (cbGate 0xE8 (setReg 5 .b) s)
/-- SET 5,C (R411 or R368). -/
def execSet5_C (s : State) : Result := .next (cbGate 0xE9 (setReg 5 .c) s)
/-- SET 5,D (R411 or R368). -/
def execSet5_D (s : State) : Result := .next (cbGate 0xEA (setReg 5 .d) s)
/-- SET 5,E (R411 or R368). -/
def execSet5_E (s : State) : Result := .next (cbGate 0xEB (setReg 5 .e) s)
/-- SET 5,H (R411 or R368). -/
def execSet5_H (s : State) : Result := .next (cbGate 0xEC (setReg 5 .h) s)
/-- SET 5,L (R411 or R368). -/
def execSet5_L (s : State) : Result := .next (cbGate 0xED (setReg 5 .l) s)
/-- SET 5,(HL) (R411 or R368). -/
def execSet5_HLm (s : State) : Result := .next (cbGate 0xEE (setReg 5 .hlm) s)
/-- SET 5,A (R411 or R368). -/
def execSet5_A (s : State) : Result := .next (cbGate 0xEF (setReg 5 .a) s)
/-- SET 6,B (R411 or R368). -/
def execSet6_B (s : State) : Result := .next (cbGate 0xF0 (setReg 6 .b) s)
/-- SET 6,C (R411 or R368). -/
def execSet6_C (s : State) : Result := .next (cbGate 0xF1 (setReg 6 .c) s)
/-- SET 6,D (R411 or R368). -/
def execSet6_D (s : State) : Result := .next (cbGate 0xF2 (setReg 6 .d) s)
/-- SET 6,E (R411 or R368). -/
def execSet6_E (s : State) : Result := .next (cbGate 0xF3 (setReg 6 .e) s)
/-- SET 6,H (R411 or R368). -/
def execSet6_H (s : State) : Result := .next (cbGate 0xF4 (setReg 6 .h) s)
/-- SET 6,L (R411 or R368). -/
def execSet6_L (s : State) : Result := .next (cbGate 0xF5 (setReg 6 .l) s)
/-- SET 6,(HL) (R411 or R368). -/
def execSet6_HLm (s : State) : Result := .next (cbGate 0xF6 (setReg 6 .hlm) s)
/-- SET 6,A (R411 or R368). -/
def execSet6_A (s : State) : Result := .next (cbGate 0xF7 (setReg 6 .a) s)
/-- SET 7,B (R411 or R368). -/
def execSet7_B (s : State) : Result := .next (cbGate 0xF8 (setReg 7 .b) s)
/-- SET 7,C (R411 or R368). -/
def execSet7_C (s : State) : Result := .next (cbGate 0xF9 (setReg 7 .c) s)
/-- SET 7,D (R411 or R368). -/
def execSet7_D (s : State) : Result := .next (cbGate 0xFA (setReg 7 .d) s)
/-- SET 7,E (R411 or R368). -/
def execSet7_E (s : State) : Result := .next (cbGate 0xFB (setReg 7 .e) s)
/-- SET 7,H (R411 or R368). -/
def execSet7_H (s : State) : Result := .next (cbGate 0xFC (setReg 7 .h) s)
/-- SET 7,L (R411 or R368). -/
def execSet7_L (s : State) : Result := .next (cbGate 0xFD (setReg 7 .l) s)
/-- SET 7,(HL) (R411 or R368). -/
def execSet7_HLm (s : State) : Result := .next (cbGate 0xFE (setReg 7 .hlm) s)
/-- SET 7,A (R411 or R368). -/
def execSet7_A (s : State) : Result := .next (cbGate 0xFF (setReg 7 .a) s)

end Sys2Proof.Machine
end

