-- ==== Sys2Proof/Machine/System.lean ====
section
/-! DEFINITION. Control and system instructions (44_system.md, R361 to R367): the shared operations, then one meaning per
row. No instruction is privileged (R450), and none stops the machine (R373). -/

namespace Sys2Proof.Machine

/-- `NOP` (R361). -/
def nop (s : State) : State := s

/-- `HALT`: under `IRQ_IMPL = NONE` a no-op, under `FULL` the halted state (R362). -/
def halt (s : State) : State :=
  if s.config.irqImpl = .full then { s with cpu := { s.cpu with halted := true } } else s

/-- `STOP`: the next byte is skipped without being read (R363). -/
def stop (s : State) : State := setPc (s.cpu.pc + 1) s

/-- `DI` (R364). -/
def di (s : State) : State := if s.config.irqImpl = .full then setIme false false s else s

/-- `EI`: the enable is deferred to the start of the next step (R365, R360). -/
def ei (s : State) : State := if s.config.irqImpl = .full then setIme s.cpu.ime true s else s

/-- An illegal opcode: a diagnostic record with the opcode's address, one before PC, and nothing else (R366). -/
def illegalOp (op : Byte) (s : State) : State := emit [⟨.unknownOpcode, s.cpu.pc - 1, op⟩] s

/-- `PREFIX CB`: fetch the second byte, then execute the CB-page row it names (R367). -/
def prefixCb (s : State) : State :=
  let (cbop, s1) := fetch8 s
  cbGate cbop (cbOperation cbop) s1

/-- NOP (R361). -/
def execNop (s : State) : Result := .next (nop s)
/-- STOP (R363). -/
def execStop (s : State) : Result := .next (stop s)
/-- HALT (R362). -/
def execHalt (s : State) : Result := .next (halt s)
/-- PREFIX CB (R367). -/
def execPrefixCb (s : State) : Result := .next (prefixCb s)
/-- ILLEGAL (R366). -/
def execIllegalD3 (s : State) : Result := .next (illegalOp 0xD3 s)
/-- ILLEGAL (R366). -/
def execIllegalDB (s : State) : Result := .next (illegalOp 0xDB s)
/-- ILLEGAL (R366). -/
def execIllegalDD (s : State) : Result := .next (illegalOp 0xDD s)
/-- ILLEGAL (R366). -/
def execIllegalE3 (s : State) : Result := .next (illegalOp 0xE3 s)
/-- ILLEGAL (R366). -/
def execIllegalE4 (s : State) : Result := .next (illegalOp 0xE4 s)
/-- ILLEGAL (R366). -/
def execIllegalEB (s : State) : Result := .next (illegalOp 0xEB s)
/-- ILLEGAL (R366). -/
def execIllegalEC (s : State) : Result := .next (illegalOp 0xEC s)
/-- ILLEGAL (R366). -/
def execIllegalED (s : State) : Result := .next (illegalOp 0xED s)
/-- DI (R364). -/
def execDi (s : State) : Result := .next (di s)
/-- ILLEGAL (R366). -/
def execIllegalF4 (s : State) : Result := .next (illegalOp 0xF4 s)
/-- EI (R365). -/
def execEi (s : State) : Result := .next (ei s)
/-- ILLEGAL (R366). -/
def execIllegalFC (s : State) : Result := .next (illegalOp 0xFC s)
/-- ILLEGAL (R366). -/
def execIllegalFD (s : State) : Result := .next (illegalOp 0xFD s)

end Sys2Proof.Machine
end

