-- ==== Sys2Proof/Machine/Processor.lean ====
section
/-! DEFINITION. The CPU step (R360): the interrupt check, the deferred enable of EI, fetch, decode and execute. It answers the
state and the step's cycle count. -/

namespace Sys2Proof.Machine

/-- Fetch the opcode at PC and the operand bytes it asks for, and decode them (R360, R161). The state is the one in which the
instruction executes: PC is past the last byte fetched. -/
def fetchInstr (s : State) : Option (Instr × State) :=
  let (op, s1) := fetch8 s
  let (operands, s2) := fetchBytes (operandBytes op) s1
  match decode (op :: operands) with
  | .ok (i, _) => some (i, s2)
  | .error _ => none

/-- Fetch, decode and execute one instruction (R360). -/
def runInstr (s : State) : Host.Outcome (State × Nat) Fault Refusal :=
  match fetchInstr s with
  | none => .fault .undecodedBytes
  | some (i, s1) =>
    match exec i s1 with
    | .next t => .next (t, cycles i s1)
    | .fault r => .fault r
    | .refused r => .refused r

/-- The deferred enable of EI, applied after the interrupt check and before the fetch (R360, R365). -/
def applyEi (s : State) : State :=
  if s.cpu.imeScheduled then setIme true false s else s

/-- Leave the halted state (R360). -/
def wake (s : State) : State := { s with cpu := { s.cpu with halted := false } }

/-- The CPU step (R360). Under `IRQ_IMPL = NONE` it is fetch, decode, execute. Under `FULL`, a halted CPU with nothing pending
idles; otherwise it wakes; with IME set and something pending the step is the interrupt service; otherwise EI's enable is
applied and one instruction executes. -/
def cpuStep (s : State) : Host.Outcome (State × Nat) Fault Refusal :=
  if s.config.irqImpl = .none then runInstr s
  else
    let p := pending s
    if s.cpu.halted ∧ p = 0 then .next (s, idleCycles)
    else
      let s1 := wake s
      if s1.cpu.ime ∧ p ≠ 0 then .next (service p s1, serviceCycles)
      else runInstr (applyEi s1)

end Sys2Proof.Machine
end

