-- ==== Sys2Proof/Machine/Timer.lean ====
section
/-! DEFINITION. The timer and divider (60_exceptions.md section 5). All its I/O accesses are on the privileged path (R470). -/

namespace Sys2Proof.Machine

/-- The DIV period in cycles (R471). -/
def divPeriod : Nat := 256

/-- `increment_div`: one DIV increment, past the write-resets-DIV rule (R471, R114). -/
def incrementDiv (s : State) : State :=
  setSlot slotDiv (slot s slotDiv + 1) { s with timer := { s.timer with divAcc := s.timer.divAcc - divPeriod } }

/-- The loop of R471 run a given number of times. -/
def advanceDiv : Nat → State → State
  | 0, s => s
  | n + 1, s => advanceDiv n (incrementDiv s)

/-- The DIV part of a timer step (R471). -/
def divStep (cycles : Nat) (s : State) : State :=
  let acc := s.timer.divAcc + cycles
  advanceDiv (acc / divPeriod) { s with timer := { s.timer with divAcc := acc } }

/-- The TIMA period that a TAC value selects; 0 means frozen (R54, R472). -/
def timaPeriod (tac : Byte) : Nat :=
  if tac.getLsbD 2 then
    match tac.extractLsb' 0 2 with
    | 0 => 1024
    | 1 => 16
    | 2 => 64
    | 3 => 256
  else 0

/-- One TIMA increment: at 0xFF it reloads from TMA and posts IF bit 2 (R472). -/
def incrementTima (period : Nat) (s : State) : State :=
  let s1 : State := { s with timer := { s.timer with timaAcc := s.timer.timaAcc - period } }
  if slot s1 slotTima = 0xFF then postInterrupt 2 (setSlot slotTima (slot s1 slotTma) s1)
  else setSlot slotTima (slot s1 slotTima + 1) s1

/-- The loop of R472 run a given number of times. -/
def advanceTima (period : Nat) : Nat → State → State
  | 0, s => s
  | n + 1, s => advanceTima period n (incrementTima period s)

/-- The TIMA part of a timer step. TAC is read once, at the start; while it is off the accumulator stands still (R472). -/
def timaStep (cycles : Nat) (s : State) : State :=
  let period := timaPeriod (slot s slotTac)
  if period = 0 then s
  else
    let acc := s.timer.timaAcc + cycles
    advanceTima period (acc / period) { s with timer := { s.timer with timaAcc := acc } }

/-- `timer_step(cycles)` (R470). -/
def timerStep (cycles : Nat) (s : State) : State := timaStep cycles (divStep cycles s)

/-- The timer's reset: it writes no slot (R524). -/
def timerReset (s : State) : State := { s with timer := Timer.reset }

end Sys2Proof.Machine
end

