-- ==== Sys2Proof/Machine/Console.lean ====
section
/-! DEFINITION. The console (R490 to R492), its reset (R520 to R526), the cartridge load (R120, R121), the boot order (R530)
and the host's actions (R500). -/

namespace Sys2Proof.Machine

/-! ### Reset -/

/-- The CPU's reset (R521). -/
def cpuReset (s : State) : State := { s with cpu := Cpu.reset }

/-- The MMU's reset: every array, slot and selector; the cartridge is kept (R522). -/
def mmuReset (s : State) : State := { s with mmu := Mmu.reset }

/-- The boot stage after a console reset: a loaded console becomes runnable (R530). -/
def BootStage.afterReset : BootStage → BootStage
  | .noCartridge => .noCartridge
  | .loaded => .runnable
  | .runnable => .runnable

/-- The console's `reset()`: MMU, CPU, PPU, timer, APU, joypad, in that order (R520). -/
def consoleReset (s : State) : State :=
  let t := joypadReset (apuReset (timerReset (ppuReset (cpuReset (mmuReset s)))))
  { t with stage := s.stage.afterReset }

/-! ### Cartridge load -/

/-- The ROM size codes of the header (R120). -/
def romSizeTable (code : Byte) : Option Nat :=
  match code.toNat with
  | 0x00 => some 2
  | 0x01 => some 4
  | 0x02 => some 8
  | 0x03 => some 16
  | 0x04 => some 32
  | 0x05 => some 64
  | 0x06 => some 128
  | 0x07 => some 256
  | 0x08 => some 512
  | 0x52 => some 72
  | 0x53 => some 80
  | 0x54 => some 96
  | _ => none

/-- The RAM size codes of the header (R120). -/
def ramSizeTable (code : Byte) : Option Nat :=
  match code.toNat with
  | 0x00 => some 0
  | 0x01 => some 0
  | 0x02 => some 1
  | 0x03 => some 4
  | 0x04 => some 16
  | 0x05 => some 8
  | _ => none

/-- The bank count computed from the file size (R120). -/
def banksOfSize (size : Nat) : Nat := max 1 (size / romBankSize)

/-- The cartridge an image makes (R120): header values from 0x0147 to 0x0149, or, for an image with no room for a header,
ROM-only with no RAM (C2, D29). -/
def cartOf (image : List Byte) : Cart :=
  let rom := Memory.ofBytesAt 0 image
  if image.length ≥ 0x150 then
    { rom := rom, romSize := image.length, cartType := rom.byteAt 0x147
      numRomBanks := (romSizeTable (rom.byteAt 0x148)).getD (banksOfSize image.length)
      numRamBanks := (ramSizeTable (rom.byteAt 0x149)).getD 0 }
  else
    { rom := rom, romSize := image.length, cartType := 0x00
      numRomBanks := banksOfSize image.length, numRamBanks := 0 }

/-- The boot stage after a successful load: a runnable console stays so, and the CPU and the peripherals keep their state
(R528). -/
def BootStage.afterLoad : BootStage → BootStage
  | .noCartridge => .loaded
  | .loaded => .loaded
  | .runnable => .runnable

/-- `load_rom(image)` (R120, R121); `none` is a file that cannot be opened. Success replaces the cartridge and resets the MMU
only; after a failure the console is not runnable. -/
def loadRom (image : Option (List Byte)) (s : State) : State × Bool :=
  match image with
  | none | some [] => ({ s with stage := .noCartridge }, false)
  | some (v :: rest) =>
    ({ mmuReset s with cart := cartOf (v :: rest), stage := s.stage.afterLoad }, true)

/-! ### The run loop -/

/-- What follows each CPU step of a run: under `CYCLE_SOURCE = TABLE`, PPU, timer and APU advance by the step's cycles, then the
joypad register is refreshed; under `HOST`, nothing (R491). -/
def afterCpuStep (c : Nat) (s : State) : State :=
  if s.config.cycleSource = .table then updateRegister (apuStep c (timerStep c (ppuStep c s))) else s

/-- One of the `n` iterations of `run(n)` (R491), refused before a load and a reset (R528). -/
def consoleStep (s : State) : Result :=
  if s.stage = .runnable then
    match cpuStep s with
    | .next (t, c) => .next (afterCpuStep c t)
    | .fault r => .fault r
    | .refused r => .refused r
  else .refused .notRunnable

/-- `run(n)` (R491). -/
def run : Nat → State → Result
  | 0, s => .next s
  | n + 1, s =>
    match consoleStep s with
    | .next t => run n t
    | .fault r => .fault r
    | .refused r => .refused r

/-! ### The host -/

/-- The host's actions (R500), the only ones by which anything outside the core changes or observes it. -/
inductive HostAction where
  | loadRom (image : Option (List Byte))
  | reset
  | run (n : Nat)
  | ppuStep (cycles : Nat)
  | timerStep (cycles : Nat)
  | apuStep (cycles : Nat)
  | setButton (button : Fin 8) (pressed : Bool)
  | updateRegister
  | read (addr : Word)
  | write (addr : Word) (v : Byte)
  deriving DecidableEq, Repr

/-- What the host gets back (R500). -/
inductive HostReply where
  | nothing
  | success (ok : Bool)
  | byte (v : Byte)
  deriving DecidableEq, Repr

/-- An action that needs a booted console (R528, R530). -/
def whenRunnable (s : State) (reply : HostReply) (t : State) : Host.Outcome (State × HostReply) Fault Refusal :=
  if s.stage = .runnable then .next (t, reply) else .refused .notRunnable

/-- The effect of a host action, between CPU steps (R500, R125). -/
def hostAct (act : HostAction) (s : State) : Host.Outcome (State × HostReply) Fault Refusal :=
  match act with
  | .loadRom image =>
    let (t, ok) := loadRom image s
    .next (t, .success ok)
  | .reset => .next (consoleReset s, .nothing)
  | .run n =>
    match run n s with
    | .next t => whenRunnable s .nothing t
    | .fault r => .fault r
    | .refused r => .refused r
  | .ppuStep c => whenRunnable s .nothing (ppuStep c s)
  | .timerStep c => whenRunnable s .nothing (timerStep c s)
  | .apuStep c => whenRunnable s .nothing (apuStep c s)
  | .setButton b p => whenRunnable s .nothing (setButton b p s)
  | .updateRegister => whenRunnable s .nothing (updateRegister s)
  | .read addr =>
    let (v, t) := memRead s addr
    whenRunnable s (.byte v) t
  | .write addr v => whenRunnable s .nothing (memWrite addr v s)

end Sys2Proof.Machine
end

