-- ==== Sys2Proof/Machine/Loader.lean ====
section
/-! DEFINITION. Placing an instruction where the next step fetches it (notes/assumptions/4.md): the raw stores behind
`State.withFetchWord`. This stands for a load from outside the machine; no instruction and no host action does it. -/

namespace Sys2Proof.Machine

/-- Whether the byte fetched at an address is a stored byte that can be replaced: not in a range with no storage and not under
an overlay (R91, R86, R92). -/
def placeable (s : State) (addr : Word) : Bool :=
  match locate s addr with
  | .noEram | .unusable => false
  | .io k => decide (k ≠ slotP1) && decide (k ≠ slotVbk) && decide (k ≠ slotSvbk)
  | _ => true

/-- Store a byte at a place past every write rule; the image grows if the place lies past its end. -/
def placeByte (addr : Word) (v : Byte) (s : State) : State :=
  match locate s addr with
  | .rom i => { s with cart := { s.cart with rom := s.cart.rom.store i v, romSize := max s.cart.romSize (i + 1) } }
  | .vram i => { s with mmu := { s.mmu with vram := s.mmu.vram.store i v } }
  | .eram i => { s with mmu := { s.mmu with eram := s.mmu.eram.store i v } }
  | .noEram => s
  | .wram i => { s with mmu := { s.mmu with wram := s.mmu.wram.store i v } }
  | .oam i => setOam i v s
  | .unusable => s
  | .io k => setSlot k v s
  | .hram i => { s with mmu := { s.mmu with hram := s.mmu.hram.store i v } }
  | .ie => { s with mmu := { s.mmu with ie := v } }

/-- Store bytes at consecutive addresses. -/
def placeBytes : Word → List Byte → State → State
  | _, [], s => s
  | addr, v :: rest, s => placeBytes (addr + 1) rest (placeByte addr v s)

/-- A state whose PC leads to storage for three bytes: PC is kept if it does, else it becomes the entry point 0x0100. -/
def pcOnStorage (s : State) : State :=
  let pc := s.cpu.pc
  if placeable s pc && placeable s (pc + 1) && placeable s (pc + 2) then s else setPc 0x0100 s

/-- A state whose next step fetches: the console is runnable, the CPU is not halted, and no interrupt will be serviced. -/
def readyToFetch (s : State) : State :=
  let t := wake { s with stage := .runnable }
  if t.cpu.ime ∧ pending t ≠ 0 then setIme false t.cpu.imeScheduled t else t

/-- Store a table word's bytes where the next step fetches. -/
def withTableImage (image : List Byte) (s : State) : State :=
  let s1 := pcOnStorage s
  readyToFetch (placeBytes s1.cpu.pc image s1)

end Sys2Proof.Machine
end

