-- ==== Sys2Proof/Machine/Step.lean ====
section
/-! DEFINITION. The step of the machine: one iteration of the console's run loop (R491), the CPU step (R360) and, under
`CYCLE_SOURCE = TABLE`, the peripheral steps it drives. -/

namespace Sys2Proof.Machine

/-- One step: next, fault or refusal. -/
def step (s : State) : Host.Outcome State Fault Refusal := consoleStep s

/-- The state with a table word's instruction stored where `step` fetches its next instruction, so that `step` fetches and runs
it (notes/assumptions/4.md, notes/assumptions/5.md). -/
def State.withFetchWord (s : State) (nbits w : Nat) : State := withTableImage (tableImage nbits w) s

end Sys2Proof.Machine
end

