-- ==== Sys2Proof/Safety.lean ====
section
/-! DEFINITION. The terms in which claims are stated: what it is for bytes to execute to a state, the diagnostics of a fetch,
which registers, flags and memory reads an instruction may change, and the invariant of the machine. Nothing here takes part
in a step. -/

namespace Sys2Proof.Machine

/-! ### Execution -/

/-- The bytes are exactly one instruction, and that instruction, executed in `s`, answers the next state `t`. In `s` PC is
already past those bytes (R35, R360); STOP's second byte is the exception, skipped by the instruction itself (R363). -/
def Executes (bytes : List Byte) (s t : State) : Prop :=
  ∃ i, decode bytes = .ok (i, []) ∧ exec i s = .next t

/-- The diagnostic records of reading `n` bytes from PC on (R82, R84, R372). -/
def fetchRecords (n : Nat) (s : State) : List Diag :=
  (List.range n).flatMap fun k => readDiag s (s.cpu.pc + BitVec.ofNat 16 k)

/-- The state in which a step executes the instruction it fetched with `n` bytes: PC past them, their records emitted. -/
def afterFetch (n : Nat) (s : State) : State :=
  emit (fetchRecords n s) (setPc (s.cpu.pc + BitVec.ofNat 16 n) s)

/-- The step in this state takes an interrupt instead of executing (R360, R441). -/
def willService (s : State) : Prop :=
  s.config.irqImpl = .full ∧ s.cpu.ime = true ∧ pending s ≠ 0

/-- The step in this state idles in HALT (R360, R362). -/
def willIdle (s : State) : Prop :=
  s.config.irqImpl = .full ∧ s.cpu.halted = true ∧ pending s = 0

/-- What an executing step does to the interrupt control state before it fetches: the wake from HALT and the deferred enable
of EI, both under `IRQ_IMPL = FULL` only (R360, R365). -/
def beforeFetch (s : State) : State :=
  if s.config.irqImpl = .full then
    { s with cpu := { s.cpu with ime := s.cpu.ime || s.cpu.imeScheduled, imeScheduled := false, halted := false } }
  else s

/-- What follows a CPU step of `c` cycles in the run loop: under `CYCLE_SOURCE = TABLE` the PPU, the timer and the APU advance by
`c`, in this order, and the joypad register is refreshed; under `HOST` nothing happens (R491). -/
def runTail (c : Nat) (s : State) : State :=
  match s.config.cycleSource with
  | .table => updateRegister (apuStep c (timerStep c (ppuStep c s)))
  | .host => s

/-- The main page of R540's table, its rows 0x0_ to 0xF_; of a conditional instruction, the count when it is taken. -/
def mainPageCounts : List (List Nat) :=
  [[1, 3, 2, 2, 1, 1, 2, 1, 5, 2, 2, 2, 1, 1, 2, 1],
   [1, 3, 2, 2, 1, 1, 2, 1, 3, 2, 2, 2, 1, 1, 2, 1],
   [3, 3, 2, 2, 1, 1, 2, 1, 3, 2, 2, 2, 1, 1, 2, 1],
   [3, 3, 2, 2, 3, 3, 3, 1, 3, 2, 2, 2, 1, 1, 2, 1],
   [1, 1, 1, 1, 1, 1, 2, 1, 1, 1, 1, 1, 1, 1, 2, 1],
   [1, 1, 1, 1, 1, 1, 2, 1, 1, 1, 1, 1, 1, 1, 2, 1],
   [1, 1, 1, 1, 1, 1, 2, 1, 1, 1, 1, 1, 1, 1, 2, 1],
   [2, 2, 2, 2, 2, 2, 1, 2, 1, 1, 1, 1, 1, 1, 2, 1]] ++
  [[1, 1, 1, 1, 1, 1, 2, 1, 1, 1, 1, 1, 1, 1, 2, 1],
   [1, 1, 1, 1, 1, 1, 2, 1, 1, 1, 1, 1, 1, 1, 2, 1],
   [1, 1, 1, 1, 1, 1, 2, 1, 1, 1, 1, 1, 1, 1, 2, 1],
   [1, 1, 1, 1, 1, 1, 2, 1, 1, 1, 1, 1, 1, 1, 2, 1],
   [5, 3, 4, 4, 6, 4, 2, 4, 5, 4, 4, 2, 6, 6, 2, 4],
   [5, 3, 4, 1, 6, 4, 2, 4, 5, 4, 4, 1, 6, 1, 2, 4],
   [3, 3, 2, 1, 1, 4, 2, 4, 4, 1, 4, 1, 1, 1, 2, 4],
   [3, 3, 2, 1, 1, 4, 2, 4, 3, 2, 4, 1, 1, 1, 2, 4]]

/-- The opcodes of R540's table that are conditional, with their count when not taken. -/
def notTakenCounts : List (Byte × Nat) :=
  [(0x20, 2), (0x28, 2), (0x30, 2), (0x38, 2), (0xC0, 2), (0xC2, 3), (0xC4, 3), (0xC8, 2),
   (0xCA, 3), (0xCC, 3), (0xD0, 2), (0xD2, 3), (0xD4, 3), (0xD8, 2), (0xDA, 3), (0xDC, 3)]

/-- The condition in bits 4..3 of an opcode (R154, R157). -/
def conditionHolds (op : Byte) (s : State) : Bool :=
  [!s.cpu.f.getLsbD 7, s.cpu.f.getLsbD 7, !s.cpu.f.getLsbD 4, s.cpu.f.getLsbD 4].getD (op.toNat / 8 % 4) false

/-- The cycles of the instruction whose first two bytes are given, by R540's table: for a CB opcode the count includes the prefix,
and is 2 for all of them under `CB_IMPL = UNIMPLEMENTED` (R368). -/
def tableCount (op second : Byte) (s : State) : Nat :=
  if op = 0xCB then
    if s.config.cbImpl = .unimplemented ∨ second.toNat % 8 ≠ 6 then 2
    else if second.toNat / 64 = 1 then 3 else 4
  else
    match notTakenCounts.lookup op with
    | some n => if conditionHolds op s then (mainPageCounts.getD (op.toNat / 16) []).getD (op.toNat % 16) 0 else n
    | none => (mainPageCounts.getD (op.toNat / 16) []).getD (op.toNat % 16) 0

/-- The state with another accumulator and flag byte. -/
def withAF (a f : Byte) (s : State) : State := { s with cpu := { s.cpu with a := a, f := f } }

/-- The state with another flag byte. -/
def withF (f : Byte) (s : State) : State := { s with cpu := { s.cpu with f := f } }

/-- A field of an opcode as a byte, for the encoding formulas of the spec (`0x40 + 8y + z`). -/
def field {w : Nat} (v : BitVec w) : Byte := v.setWidth 8

/-- An 8-bit ALU instruction runs in both its families: `0x80 + 8y + z` with a register operand, `0xC6 + 8y` with an immediate
one (R153, R250). `post` gives the state from the operand and the state after reading it. -/
def AluRuns (y : BitVec 3) (post : Byte → State → State) : Prop :=
  ∀ s : State,
    (∀ r : R8, Executes [0x80 + 8 * field y + field r.index] s (post (r8Value r s) (afterReadR8 r s))) ∧
    (∀ n : Byte, Executes [0xC6 + 8 * field y, n] s (post n s))

/-- A CB rotate, shift or swap runs, under `CB_IMPL = FULL`, on every operand: `res` and `carry` give the result and the C flag
from the operand and the old C flag; Z is that of the result, N and H are cleared (R400 to R408). -/
def RotRuns (y : BitVec 3) (res : Byte → Bool → Byte) (carry : Byte → Bool) : Prop :=
  ∀ (s : State) (r : R8), s.config.cbImpl = .full →
    Executes [0xCB, 8 * field y + field r.index] s
      (withF (flagByte (decide (res (r8Value r s) (flagC s) = 0)) false false (carry (r8Value r s)))
        (writeR8 r (res (r8Value r s) (flagC s)) (afterReadR8 r s)))

/-- TIMA after `k` increments: 0xFF reloads from TMA (R472). -/
def timaAfter (tma : Byte) : Nat → Byte → Byte
  | 0, v => v
  | k + 1, v => timaAfter tma k (if v = 0xFF then tma else v + 1)

/-- The value of a packed decimal byte. -/
def decimal (v : Byte) : Nat := 10 * (v.toNat / 16) + v.toNat % 16

/-- A byte that holds two decimal digits. -/
def isDecimal (v : Byte) : Prop := v.toNat / 16 ≤ 9 ∧ v.toNat % 16 ≤ 9

/-! ### What an instruction may write -/

/-- The registers of R30, but F and PC. -/
inductive RegName where
  | a | b | c | d | e | h | l | sp
  deriving DecidableEq, Repr

/-- The value of a register, as a number. -/
def RegName.value : RegName → State → Nat
  | .a, s => s.cpu.a.toNat
  | .b, s => s.cpu.b.toNat
  | .c, s => s.cpu.c.toNat
  | .d, s => s.cpu.d.toNat
  | .e, s => s.cpu.e.toNat
  | .h, s => s.cpu.h.toNat
  | .l, s => s.cpu.l.toNat
  | .sp, s => s.cpu.sp.toNat

/-- The flags of R31. -/
inductive FlagName where
  | z | n | h | c
  deriving DecidableEq, Repr

/-- The value of a flag. -/
def FlagName.value : FlagName → State → Bool
  | .z, s => flagZ s
  | .n, s => flagN s
  | .h, s => flagH s
  | .c, s => flagC s

/-- The register a register index names; index 6 names none (R36). -/
def regsOfR8 : R8 → List RegName
  | .b => [.b] | .c => [.c] | .d => [.d] | .e => [.e] | .h => [.h] | .l => [.l] | .hlm => [] | .a => [.a]

/-- The registers of a pair of table `rp` (R37). -/
def regsOfRp : Rp → List RegName
  | .bc => [.b, .c] | .de => [.d, .e] | .hl => [.h, .l] | .sp => [.sp]

/-- The registers, other than F, of a pair of table `rp2` (R37). -/
def regsOfRp2 : Rp2 → List RegName
  | .bc => [.b, .c] | .de => [.d, .e] | .hl => [.h, .l] | .af => [.a]

/-- HL±: the address register that the indirect load or store also updates (R205, R206, R209, R210). -/
def regsOfMode : IndMode → List RegName
  | .bc | .de => []
  | .hlInc | .hlDec => [.h, .l]

/-- The registers an instruction may write: its destination, and those its addressing or the stack updates (R33, and each
instruction's own rule). -/
def writtenRegs : Form → List RegName
  | .ld dst _ | .ldImm dst _ => regsOfR8 dst
  | .ldPairImm p _ | .incPair p | .decPair p => regsOfRp p
  | .storeInd m => regsOfMode m
  | .loadInd m => .a :: regsOfMode m
  | .pop p => .sp :: regsOfRp2 p
  | .push _ => [.sp]
  | .storeAbs _ | .storeHigh _ | .storeHighC | .storeSp _ => []
  | .loadAbs _ | .loadHigh _ | .loadHighC => [.a]
  | .ldSpHl | .addSp _ => [.sp]
  | .aluReg op _ | .aluImm op _ => if op = .cp then [] else [.a]
  | .incReg r | .decReg r => regsOfR8 r
  | .daa | .cpl | .rlca | .rrca | .rla | .rra => [.a]
  | .scf | .ccf => []
  | .addHl _ | .ldHlSp _ => [.h, .l]
  | .jp _ | .jpCond _ _ | .jpHl | .jr _ | .jrCond _ _ => []
  | .call _ | .callCond _ _ | .rst _ | .ret | .retCond _ | .reti => [.sp]
  | .nop | .halt | .stop | .di | .ei | .illegal _ => []
  | .prefixCb => [.a, .b, .c, .d, .e, .h, .l]
  | .rot _ r | .res _ r | .set _ r => regsOfR8 r
  | .bit _ _ => []

/-- The flags an instruction may write: the table of R38. -/
def writtenFlags : Form → List FlagName
  | .pop p => if p = .af then [.z, .n, .h, .c] else []
  | .aluReg _ _ | .aluImm _ _ | .rlca | .rrca | .rla | .rra | .addSp _ | .ldHlSp _ | .rot _ _ => [.z, .n, .h, .c]
  | .incReg _ | .decReg _ | .bit _ _ => [.z, .n, .h]
  | .daa => [.z, .h, .c]
  | .cpl => [.n, .h]
  | .scf | .ccf | .addHl _ => [.n, .h, .c]
  | .prefixCb => [.z, .n, .h, .c]
  | .ld _ _ | .ldImm _ _ | .ldPairImm _ _ | .storeInd _ | .loadInd _ | .push _ | .storeAbs _ | .loadAbs _ | .storeHigh _
  | .loadHigh _ | .storeHighC | .loadHighC | .storeSp _ | .ldSpHl | .incPair _ | .decPair _ | .jp _ | .jpCond _ _ | .jpHl
  | .jr _ | .jrCond _ _ | .call _ | .callCond _ _ | .ret | .retCond _ | .reti | .rst _ | .nop | .halt | .stop | .di | .ei
  | .illegal _ | .res _ _ | .set _ _ => []

/-- The instructions that may transfer control (R35, R320 to R330), and STOP, which skips a byte (R363). -/
def writesPc : Form → Bool
  | .jp _ | .jpCond _ _ | .jpHl | .jr _ | .jrCond _ _ | .call _ | .callCond _ _ | .ret | .retCond _ | .reti | .rst _ => true
  | .stop | .prefixCb => true
  | _ => false

/-- The instructions that may write IME, `ime_scheduled` or `halted`: DI, EI, RETI, and HALT (R65, R39). -/
def writesInterruptState : Form → Bool
  | .di | .ei | .reti | .halt => true
  | _ => false

/-! ### Stores -/

/-- The address of the one byte an instruction stores, by the expression its meaning uses; `none` for a form that stores no
byte, or two (`storedWord`). -/
def storedByte (f : Form) (s : State) : Option Word :=
  match f with
  | .ld .hlm _ | .ldImm .hlm _ | .incReg .hlm | .decReg .hlm => some s.cpu.hl
  | .rot _ .hlm | .res _ .hlm | .set _ .hlm => if s.config.cbImpl = .full then some s.cpu.hl else none
  | .storeInd m => some (indAddr m s)
  | .storeAbs a => some a
  | .storeHigh n => some (highPage n)
  | .storeHighC => some (highPage s.cpu.c)
  | _ => none

/-- The two addresses and bytes an instruction stores, in order: a push at SP−1 and SP−2, high byte first (R211), or SP at
`a16` and `a16 + 1`, low byte first (R221); `none` for a form that stores no pair of bytes in this state. -/
def storedWord (f : Form) (s : State) : Option ((Word × Byte) × (Word × Byte)) :=
  let pushed (v : Word) := some ((s.cpu.sp - 1, hiByte v), (s.cpu.sp - 2, loByte v))
  match f with
  | .push p => pushed (getRp2 p s)
  | .call _ | .rst _ => pushed s.cpu.pc
  | .callCond cc _ => if cond cc s then pushed s.cpu.pc else none
  | .storeSp a => some ((a, loByte s.cpu.sp), (a + 1, hiByte s.cpu.sp))
  | _ => none

/-- Whether an address lies in a range, ends included. -/
def inRange (lo hi : Nat) (x : Word) : Prop := lo ≤ x.toNat ∧ x.toNat ≤ hi

/-- The addresses whose read a byte stored at `addr` may change. In plain storage, those that lead to the same byte: the
address itself and, in work RAM, its echo. Where R118 and R66 give a store an effect beyond the addressed byte, what that
effect is seen through: an MBC1 selector (the banked ROM or the external RAM window), the OAM copy, a bank selector. -/
def storeReaches (s : State) (addr x : Word) : Prop :=
  match locate s addr with
  | .rom _ =>
    hasMbc1 s = true ∧
      (if addr.toNat < 0x2000 then inRange 0xA000 0xBFFF x
       else if addr.toNat < 0x4000 then inRange 0x4000 0x7FFF x
       else if addr.toNat < 0x6000 then inRange 0x4000 0x7FFF x ∨ inRange 0xA000 0xBFFF x
       else inRange 0xA000 0xBFFF x)
  | .noEram | .unusable => False
  | .io k =>
    x = addr ∨ (k = slotDma ∧ inRange 0xFE00 0xFE9F x) ∨ (k = slotVbk ∧ inRange 0x8000 0x9FFF x) ∨
      (k = slotSvbk ∧ (inRange 0xD000 0xDFFF x ∨ inRange 0xF000 0xFDFF x))
  | p => locate s x = p

/-! ### The invariant -/

/-- The ranges the spec gives the state elements, and the canonical form of the arrays. -/
structure Inv (s : State) : Prop where
  /-- "F's low nibble is always zero" (R31). -/
  flagsLow : s.cpu.f &&& 0x0F = 0
  /-- `rom_bank_low` "holds 1..31 in every reachable state" (R41). -/
  romBankLow : s.mmu.romBankLow ≠ 0
  /-- `wram_bank` "holds 1..7 in every reachable state" (R42). -/
  wramBank : s.mmu.wramBank ≠ 0
  /-- `num_rom_banks` is "integer ≥ 1" (R43). -/
  romBanks : 1 ≤ s.cart.numRomBanks
  /-- `|rom| ≥ 1` (R40), once there is a cartridge. -/
  image : s.stage ≠ .noCartridge → 1 ≤ s.cart.romSize
  /-- Without MBC1 "the selectors keep their reset values for the life of the load" (R96). -/
  selectors : hasMbc1 s = false →
    s.mmu.romBankLow = 1 ∧ s.mmu.romBankHigh = 0 ∧ s.mmu.bankingMode = 0 ∧ s.mmu.ramEnabled = false
  romWf : s.cart.rom.wf s.cart.romSize
  eramWf : s.mmu.eram.wf (s.cart.numRamBanks * ramBankSize)
  wramWf : s.mmu.wram.wf (8 * wramBankSize)
  vramWf : s.mmu.vram.wf (2 * vramBankSize)
  oamWf : s.mmu.oam.wf oamSize
  ioWf : s.mmu.io.wf ioSize
  hramWf : s.mmu.hram.wf hramSize
  /-- `dot` is 0..455 between PPU steps (R44). -/
  dot : s.ppu.dot < dotsPerLine
  /-- `ly` is 0..153 (R44). -/
  ly : s.ppu.ly < linesPerFrame
  /-- The VBlank latch is set from the entry of line 144 to the wrap to line 0 (R462). -/
  latch : s.ppu.vblankLatched = decide (vblankLine ≤ s.ppu.ly)
  /-- The mode is "a pure function of (`ly`, `dot`)" (R463), or 0 at the origin while the LCD is off (R461, R523). -/
  mode : s.ppu.mode = modeAt s.ppu.ly s.ppu.dot ∨ (s.ppu.mode = .hblank ∧ s.ppu.ly = 0 ∧ s.ppu.dot = 0)
  /-- "Between timer steps `div_acc < 256`" (R45). -/
  divAcc : s.timer.divAcc < divPeriod
  /-- `tima_acc` is below the longest TIMA period: an enabled step leaves it below the period in force, a frozen one leaves it
  alone (R45, R472). -/
  timaAcc : s.timer.timaAcc < 1024
  /-- Under `IRQ_IMPL = NONE` the interrupt control state does not exist (R39): it stays as reset left it. -/
  noInterrupts : s.config.irqImpl = .none →
    s.cpu.ime = false ∧ s.cpu.imeScheduled = false ∧ s.cpu.halted = false

end Sys2Proof.Machine
end

