-- ==== Sys2Proof/Certificates/Slice0/Obligations.lean ====
section
/-! DEFINITION. The statements for the provers, in the order of OBLIGATIONS.json. Each formalises rules of spec/, named in its
docstring. Where a statement rests on what the spec itself marks as general knowledge or as its own decision, or on a choice of
this model, its docstring says so; "log n" is notes/assumptions/n.md. In a statement about an instruction's bytes (`Executes`), the
state `s` is the one in which the instruction executes: PC is already past its bytes (R35, R360). -/

section Statements

open Sys2Proof Sys2Proof.Machine

/-! ### Encoding -/

/-- Decoding what the encoder writes gives the instruction back, and the bytes after it, for every whole instruction and
every value of its operands (R150, R156, R158, R160). Most opcode positions and the operand byte order are the spec's general
knowledge (log 13); that STOP's second byte is decoded with it is the model's choice (log 6). -/
def Obligations.DecodeEncode : Prop :=
  ∀ (i : Instr) (rest : List Byte), WellFormed i = true → decode (encode i ++ rest) = .ok (i, rest)

/-- Bytes that decode to a whole instruction are the encoder's bytes of it followed by what is left, so no two encodings mean
the same; STOP is the exception, its second byte being ignored (R363). Rests on log 13 as DecodeEncode does, and on log 6 for
STOP. -/
def Obligations.EncodeDecode : Prop :=
  ∀ (bytes rest : List Byte) (i : Instr), decode bytes = .ok (i, rest) → i ≠ .prefixCb →
    if i = .stop then ∃ skipped, bytes = 0x10 :: skipped ∧ rest = skipped.drop 1 else bytes = encode i ++ rest

/-- The decoder is total: any three bytes begin with an instruction or ILLEGAL, it is a whole instruction, and what is left
is what its length, a function of the first byte alone, leaves (R150, R161). The lengths are in part the spec's general
knowledge (log 13). -/
def Obligations.DecodeTotal : Prop :=
  ∀ b0 b1 b2 : Byte,
    ∃ i, decode [b0, b1, b2] = .ok (i, [b0, b1, b2].drop (lengthOf b0)) ∧ WellFormed i = true ∧
      1 ≤ lengthOf b0 ∧ lengthOf b0 ≤ 3

/-- A few words of the spec's own examples and maps: the decoder reads them as the spec does (R158, R160). Of these positions
only 0x06, 0x80 and 0x76 are the source's own, the others the spec's general knowledge (log 13). -/
def Obligations.DecodeWords : Prop :=
  decode [0x06, 0x05] = .ok (.ldB_d8 0x05, []) ∧ decode [0x21, 0x34, 0x12] = .ok (.ldHL_d16 0x1234, []) ∧
  decode [0x76] = .ok (.halt, []) ∧ decode [0x80] = .ok (.addA_B, []) ∧ decode [0xC3, 0x50, 0x01] = .ok (.jp_a16 0x0150, []) ∧
  decode [0xD3] = .ok (.illegalD3, []) ∧ decode [0xCB, 0x37] = .ok (.swap_A, []) ∧ decode [0xCB, 0x7C] = .ok (.bit7_H, [])

/-! ### Operand tables -/

/-- The register index (R36), the indices of the pair tables (R37), and the conditions (R154, R157): what each index selects,
what a read of it gives and what a write of it does. Then the terms other statements use: the places of the flags in F (R31),
the writes of A, HL, SP and PC, the two halves of a read (R118), and a raw I/O slot. The numbering of pairs and conditions is
the spec's general knowledge (log 13). -/
def Obligations.OperandTables : Prop :=
  ∀ (s : State) (v : Byte) (w : Word),
    ([R8.b, .c, .d, .e, .h, .l, .hlm, .a].map R8.index = [0, 1, 2, 3, 4, 5, 6, 7] ∧
      [R8.b, .c, .d, .e, .h, .l, .a].map (readR8 · s) =
        [(s.cpu.b, s), (s.cpu.c, s), (s.cpu.d, s), (s.cpu.e, s), (s.cpu.h, s), (s.cpu.l, s), (s.cpu.a, s)] ∧
      readR8 .hlm s = memRead s (s.cpu.h ++ s.cpu.l) ∧ writeR8 .hlm v s = memWrite (s.cpu.h ++ s.cpu.l) v s ∧
      writeR8 .b v s = { s with cpu := { s.cpu with b := v } } ∧ writeR8 .c v s = { s with cpu := { s.cpu with c := v } } ∧
      writeR8 .d v s = { s with cpu := { s.cpu with d := v } } ∧ writeR8 .e v s = { s with cpu := { s.cpu with e := v } } ∧
      writeR8 .h v s = { s with cpu := { s.cpu with h := v } } ∧ writeR8 .l v s = { s with cpu := { s.cpu with l := v } } ∧
      writeR8 .a v s = { s with cpu := { s.cpu with a := v } }) ∧
    ([Rp.bc, .de, .hl, .sp].map Rp.index = [0, 1, 2, 3] ∧ [Rp2.bc, .de, .hl, .af].map Rp2.index = [0, 1, 2, 3] ∧
      [Rp.bc, .de, .hl].map (getRp · s) = [Rp2.bc, .de, .hl].map (getRp2 · s) ∧ getRp .sp s = s.cpu.sp ∧
      [Rp.bc, .de, .hl].map (setRp · w s) = [Rp2.bc, .de, .hl].map (setRp2 · w s) ∧
      setRp .sp w s = { s with cpu := { s.cpu with sp := w } }) ∧
    ([Cond.nz, .z, .nc, .c].map Cond.index = [0, 1, 2, 3] ∧
      [Cond.nz, .z, .nc, .c].map (Machine.cond · s) =
        [!s.cpu.f.getLsbD 7, s.cpu.f.getLsbD 7, !s.cpu.f.getLsbD 4, s.cpu.f.getLsbD 4]) ∧
    ([flagZ s, flagN s, flagH s, flagC s] = [7, 6, 5, 4].map (s.cpu.f.getLsbD ·) ∧
      ∀ z n h c, (List.range 8).map (flagByte z n h c).getLsbD = [false, false, false, false, c, h, n, z]) ∧
    (setA v s = { s with cpu := { s.cpu with a := v } } ∧
      setHl w s = { s with cpu := { s.cpu with h := w.extractLsb' 8 8, l := w.extractLsb' 0 8 } } ∧
      setSp w s = { s with cpu := { s.cpu with sp := w } } ∧ setPc w s = { s with cpu := { s.cpu with pc := w } }) ∧
    (∀ r : R8, readR8 r s = (r8Value r s, afterReadR8 r s)) ∧ memRead s w = (readByte s w, afterRead s w) ∧
    afterRead s w = { s with diag := s.diag ++ readDiag s w } ∧ ∀ k, slot s k = s.mmu.io.byteAt k

/-- The pair views (R32): two 8-bit registers, the first named the high byte; a write of a pair writes both, a write of AF
masks F's low nibble; a pair is a view, so a write of one of its registers changes it. -/
def Obligations.PairViews : Prop :=
  ∀ (s : State) (w : Word) (v : Byte),
    [Rp2.af, .bc, .de, .hl].map (getRp2 · s) =
      [s.cpu.a ++ s.cpu.f, s.cpu.b ++ s.cpu.c, s.cpu.d ++ s.cpu.e, s.cpu.h ++ s.cpu.l] ∧
    setRp2 .bc w s = { s with cpu := { s.cpu with b := w.extractLsb' 8 8, c := w.extractLsb' 0 8 } } ∧
    setRp2 .de w s = { s with cpu := { s.cpu with d := w.extractLsb' 8 8, e := w.extractLsb' 0 8 } } ∧
    setRp2 .hl w s = { s with cpu := { s.cpu with h := w.extractLsb' 8 8, l := w.extractLsb' 0 8 } } ∧
    setRp2 .af w s = { s with cpu := { s.cpu with a := w.extractLsb' 8 8, f := w.extractLsb' 0 8 &&& 0xF0 } } ∧
    getRp2 .hl (writeR8 .h v s) = v ++ s.cpu.l ∧ getRp2 .hl (writeR8 .l v s) = s.cpu.h ++ v ∧
    getRp2 .bc (writeR8 .b v s) = v ++ s.cpu.c ∧ getRp2 .de (writeR8 .e v s) = s.cpu.d ++ v ∧
    ∀ p : Rp2, getRp2 p (setRp2 p w s) = if p = .af then w &&& 0xFFF0 else w

/-! ### Loads and the stack -/

/-- `LD r,r'` (R200): every pair of register indices but (HL),(HL), which is HALT. The source is read, then the destination
written. -/
def Obligations.LoadRegister : Prop :=
  ∀ (s : State) (dst src : R8), ¬(dst = .hlm ∧ src = .hlm) →
    Executes [0x40 + 8 * field dst.index + field src.index] s (writeR8 dst (r8Value src s) (afterReadR8 src s))

/-- `LD r,d8` (R201) and `LD rr,d16` (R202), the 16-bit immediate low byte first. The opcodes and the byte order are in part
the spec's general knowledge (log 13). -/
def Obligations.LoadImmediate : Prop :=
  ∀ (s : State),
    (∀ (r : R8) (v : Byte), Executes [0x06 + 8 * field r.index, v] s (writeR8 r v s)) ∧
    (∀ (p : Rp) (lo hi : Byte), Executes [0x01 + 16 * field p.index, lo, hi] s (setRp p (hi ++ lo) s))

/-- The indirect accumulator loads and stores (R203 to R210): through BC, DE, and HL, which HL+ and HL− change after the
access, modulo 2^16. The opcodes and the order of access and update are the spec's general knowledge (log 13), the wrap its
decision D18 (log 14). -/
def Obligations.IndirectAccumulator : Prop :=
  ∀ (s : State),
    let bc := s.cpu.b ++ s.cpu.c
    let de := s.cpu.d ++ s.cpu.e
    let hl := s.cpu.h ++ s.cpu.l
    Executes [0x02] s (memWrite bc s.cpu.a s) ∧ Executes [0x12] s (memWrite de s.cpu.a s) ∧
    Executes [0x22] s (setHl (hl + 1) (memWrite hl s.cpu.a s)) ∧
    Executes [0x32] s (setHl (hl - 1) (memWrite hl s.cpu.a s)) ∧
    Executes [0x0A] s (setA (readByte s bc) (afterRead s bc)) ∧ Executes [0x1A] s (setA (readByte s de) (afterRead s de)) ∧
    Executes [0x2A] s (setHl (hl + 1) (setA (readByte s hl) (afterRead s hl))) ∧
    Executes [0x3A] s (setHl (hl - 1) (setA (readByte s hl) (afterRead s hl)))

/-- `PUSH rr` (R214, R211): the high byte at SP−1, then the low byte at SP−2, SP two lower. `POP rr` (R213, R212): the low
byte from SP, the high byte from SP+1, SP two higher, then the pair written, with F's low nibble zero for AF. All addresses
are modulo 2^16. The opcodes are the spec's general knowledge (log 13), the wrap and the order of the accesses its decisions
D17 and D18 (log 14). -/
def Obligations.PushPop : Prop :=
  ∀ (s : State) (p : Rp2),
    Executes [0xC5 + 16 * field p.index] s
      (setSp (s.cpu.sp - 2)
        (memWrite (s.cpu.sp - 2) ((getRp2 p s).extractLsb' 0 8)
          (memWrite (s.cpu.sp - 1) ((getRp2 p s).extractLsb' 8 8) s))) ∧
    Executes [0xC1 + 16 * field p.index] s
      (setRp2 p (readByte s (s.cpu.sp + 1) ++ readByte s s.cpu.sp)
        (setSp (s.cpu.sp + 2) (afterRead (afterRead s s.cpu.sp) (s.cpu.sp + 1))))

/-- `PUSH` then `POP` of the same pair restores it and SP (R214), and leaves every register as it was, when both bytes of the
stack slot are in work RAM and F's low nibble is zero. Rests on log 13 and log 14 as PushPop does. -/
def Obligations.PushThenPop : Prop :=
  ∀ (s t u : State) (p : Rp2), Inv s → inRange 0xC000 0xDFFF (s.cpu.sp - 1) → inRange 0xC000 0xDFFF (s.cpu.sp - 2) →
    Executes [0xC5 + 16 * field p.index] s t → Executes [0xC1 + 16 * field p.index] t u → u.cpu = s.cpu

/-- The absolute and high-page loads and stores (R215 to R220): `a16` low byte first, `n8` and C offsets from 0xFF00. The
opcodes, the byte order and the base 0xFF00 are the spec's general knowledge (log 13). -/
def Obligations.AbsoluteAndHighPage : Prop :=
  ∀ (s : State) (lo hi n : Byte),
    let a16 : Word := hi ++ lo
    let at8 (k : Byte) : Word := (0xFF : Byte) ++ k
    Executes [0xEA, lo, hi] s (memWrite a16 s.cpu.a s) ∧
    Executes [0xFA, lo, hi] s (setA (readByte s a16) (afterRead s a16)) ∧
    Executes [0xE0, n] s (memWrite (at8 n) s.cpu.a s) ∧
    Executes [0xF0, n] s (setA (readByte s (at8 n)) (afterRead s (at8 n))) ∧
    Executes [0xE2] s (memWrite (at8 s.cpu.c) s.cpu.a s) ∧
    Executes [0xF2] s (setA (readByte s (at8 s.cpu.c)) (afterRead s (at8 s.cpu.c)))

/-- `LD (a16),SP` (R221), the low byte at `a16`, then the high byte at `a16 + 1` modulo 2^16, and `LD SP,HL` (R222). The
first rule as a whole and the second's opcode are the spec's general knowledge (log 13), and 0x08 its decision D20 (log 14).
-/
def Obligations.StackPointerTransfers : Prop :=
  ∀ (s : State) (lo hi : Byte),
    let a16 : Word := hi ++ lo
    Executes [0x08, lo, hi] s
      (memWrite (a16 + 1) (s.cpu.sp.extractLsb' 8 8) (memWrite a16 (s.cpu.sp.extractLsb' 0 8) s)) ∧
    Executes [0xF9] s (setSp (s.cpu.h ++ s.cpu.l) s)

/-! ### 8-bit arithmetic -/

/-- ADD, ADC, SUB and SBC (R251 to R254), register and immediate operands: the exact result narrowed to 8 bits, and the four
flags as comparisons on unbounded numbers. The immediate opcodes are the spec's general knowledge (log 13). -/
def Obligations.AddSubtract : Prop :=
  AluRuns 0 (fun v t =>
    let a := t.cpu.a.toNat
    let r := BitVec.ofNat 8 (a + v.toNat)
    withAF r (flagByte (decide (r = 0)) false (decide (a % 16 + v.toNat % 16 > 15)) (decide (a + v.toNat > 255))) t) ∧
  AluRuns 1 (fun v t =>
    let a := t.cpu.a.toNat
    let c := (flagC t).toNat
    let r := BitVec.ofNat 8 (a + v.toNat + c)
    withAF r (flagByte (decide (r = 0)) false (decide (a % 16 + v.toNat % 16 + c > 15)) (decide (a + v.toNat + c > 255))) t) ∧
  AluRuns 2 (fun v t =>
    let a := t.cpu.a.toNat
    let r := BitVec.ofInt 8 ((a : Int) - v.toNat)
    withAF r (flagByte (decide (r = 0)) true (decide (a % 16 < v.toNat % 16)) (decide (a < v.toNat))) t) ∧
  AluRuns 3 (fun v t =>
    let a := t.cpu.a.toNat
    let c := (flagC t).toNat
    let r := BitVec.ofInt 8 ((a : Int) - v.toNat - c)
    withAF r (flagByte (decide (r = 0)) true (decide (a % 16 < v.toNat % 16 + c)) (decide (a < v.toNat + c))) t)

/-- AND, XOR, OR (R255 to R257) and CP (R258), which sets the flags of SUB and does not write A. The immediate opcodes are
the spec's general knowledge (log 13). -/
def Obligations.LogicCompare : Prop :=
  AluRuns 4 (fun v t => withAF (t.cpu.a &&& v) (flagByte (decide (t.cpu.a &&& v = 0)) false true false) t) ∧
  AluRuns 5 (fun v t => withAF (t.cpu.a ^^^ v) (flagByte (decide (t.cpu.a = v)) false false false) t) ∧
  AluRuns 6 (fun v t => withAF (t.cpu.a ||| v) (flagByte (decide (t.cpu.a = 0 ∧ v = 0)) false false false) t) ∧
  AluRuns 7 (fun v t =>
    withF (flagByte (decide (t.cpu.a = v)) true (decide (t.cpu.a.toNat % 16 < v.toNat % 16))
      (decide (t.cpu.a.toNat < v.toNat))) t)

/-- `INC r` (R259) and `DEC r` (R260), index 6 reading and writing memory: Z, N and H as the rules give them, C kept. The
opcodes are the spec's general knowledge (log 13). -/
def Obligations.IncDec : Prop :=
  ∀ (s : State) (r : R8),
    let old := r8Value r s
    Executes [0x04 + 8 * field r.index] s
      (withF (flagByte (decide (old = 0xFF)) false (decide (old.toNat % 16 = 15)) (flagC s))
        (writeR8 r (old + 1) (afterReadR8 r s))) ∧
    Executes [0x05 + 8 * field r.index] s
      (withF (flagByte (decide (old = 0x01)) true (decide (old.toNat % 16 = 0)) (flagC s))
        (writeR8 r (old - 1) (afterReadR8 r s)))

/-- `DAA` (R261): both corrections decided on A before either is applied, N kept, H cleared, C set if the 0x60 correction
applies and otherwise kept. The conditions after a subtraction and the order of the tests are the spec's decision D15 (log
14). -/
def Obligations.DecimalAdjust : Prop :=
  ∀ (s : State),
    let a := s.cpu.a.toNat
    let low : Bool := flagH s || (!flagN s && decide (a % 16 > 9))
    let high : Bool := flagC s || (!flagN s && decide (a > 0x99))
    let corr : Nat := (if low then 0x06 else 0) + (if high then 0x60 else 0)
    let r := if flagN s then BitVec.ofInt 8 ((a : Int) - corr) else BitVec.ofNat 8 (a + corr)
    Executes [0x27] s (withAF r (flagByte (decide (r = 0)) (flagN s) false high) s)

/-- What DAA is for (R261, R269): after `ADD A,B` of two packed decimal bytes, DAA leaves their decimal sum modulo 100 in A
and the decimal carry in C; after `SUB B`, their difference modulo 100 and the decimal borrow. This is a consequence the
rules do not state, and rests on decision D15 (log 14). -/
def Obligations.DecimalArithmetic : Prop :=
  ∀ (s t u : State), isDecimal s.cpu.a → isDecimal s.cpu.b →
    (Executes [0x80] s t → Executes [0x27] t u →
      isDecimal u.cpu.a ∧ decimal u.cpu.a = (decimal s.cpu.a + decimal s.cpu.b) % 100 ∧
        flagC u = decide (decimal s.cpu.a + decimal s.cpu.b ≥ 100)) ∧
    (Executes [0x90] s t → Executes [0x27] t u →
      isDecimal u.cpu.a ∧ decimal u.cpu.a = (decimal s.cpu.a + 100 - decimal s.cpu.b) % 100 ∧
        flagC u = decide (decimal s.cpu.a < decimal s.cpu.b))

/-- `SCF` (R263) and `CCF` (R264): N and H cleared, C set or inverted, Z kept, nothing else changed. The opcodes are the
spec's general knowledge (log 13). -/
def Obligations.CarryFlag : Prop :=
  ∀ (s : State),
    Executes [0x37] s (withF (flagByte (flagZ s) false false true) s) ∧
    Executes [0x3F] s (withF (flagByte (flagZ s) false false (!flagC s)) s)

/-- CPL (R262) and the rotates of the accumulator (R265 to R268), which always clear Z. What CPL and the rotates compute, and
their opcodes, is the spec's general knowledge (log 13). -/
def Obligations.AccumulatorOps : Prop :=
  ∀ (s : State),
    let a := s.cpu.a
    let bit (b : Bool) : Byte := if b then 1 else 0
    Executes [0x2F] s (withAF (~~~a) (flagByte (flagZ s) true true (flagC s)) s) ∧
    Executes [0x07] s (withAF (a.rotateLeft 1) (flagByte false false false (a.getLsbD 7)) s) ∧
    Executes [0x0F] s (withAF (a.rotateRight 1) (flagByte false false false (a.getLsbD 0)) s) ∧
    Executes [0x17] s (withAF (2 * a + bit (flagC s)) (flagByte false false false (a.getLsbD 7)) s) ∧
    Executes [0x1F] s (withAF ((a >>> 1) + 128 * bit (flagC s)) (flagByte false false false (a.getLsbD 0)) s)

/-! ### 16-bit arithmetic -/

/-- `INC rr` (R300) and `DEC rr` (R301): modulo 2^16, no flag. The opcodes, and that no flag changes, are the spec's general
knowledge (log 13). -/
def Obligations.PairIncDec : Prop :=
  ∀ (s : State) (p : Rp),
    Executes [0x03 + 16 * field p.index] s (setRp p (getRp p s + 1) s) ∧
    Executes [0x0B + 16 * field p.index] s (setRp p (getRp p s - 1) s)

/-- `ADD HL,rr` (R302), `ADD SP,e8` (R303) and `LD HL,SP+e8` (R304): the carries out of bits 11 and 15 for the first, with Z
kept; for the others the signed displacement, with the carries of the unsigned byte addition, Z and N cleared. The opcodes
and the sign extension are the spec's general knowledge (log 13). -/
def Obligations.WordAdd : Prop :=
  ∀ (s : State) (p : Rp) (e : Byte),
    let hl : Word := s.cpu.h ++ s.cpu.l
    let v := getRp p s
    let sum := BitVec.ofInt 16 ((s.cpu.sp.toNat : Int) + e.toInt)
    let f := flagByte false false (decide (s.cpu.sp.toNat % 16 + e.toNat % 16 > 15))
      (decide (s.cpu.sp.toNat % 256 + e.toNat > 255))
    Executes [0x09 + 16 * field p.index] s
      (withF (flagByte (flagZ s) false (decide (hl.toNat % 4096 + v.toNat % 4096 > 4095)) (decide (hl.toNat + v.toNat > 65535)))
        (setHl (hl + v) s)) ∧
    Executes [0xE8, e] s (withF f (setSp sum s)) ∧ Executes [0xF8, e] s (withF f (setHl sum s))

/-! ### Control -/

/-- The jumps (R320 to R324): to an absolute address, to HL itself, or relative to the address after the operand, modulo
2^16; the conditional ones do nothing but advance when their condition fails. The opcodes, the operand order and the base of
a relative jump are the spec's general knowledge (log 13), the wrap its decision D18 (log 14). -/
def Obligations.Jumps : Prop :=
  ∀ (s : State) (cc : Cond) (lo hi e : Byte),
    let a : Word := hi ++ lo
    let rel := BitVec.ofInt 16 ((s.cpu.pc.toNat : Int) + e.toInt)
    Executes [0xC3, lo, hi] s (setPc a s) ∧
    Executes [0xC2 + 8 * field cc.index, lo, hi] s (if Machine.cond cc s then setPc a s else s) ∧
    Executes [0xE9] s (setPc (s.cpu.h ++ s.cpu.l) s) ∧
    Executes [0x18, e] s (setPc rel s) ∧
    Executes [0x20 + 8 * field cc.index, e] s (if Machine.cond cc s then setPc rel s else s)

/-- CALL, CALL cc (R325, R326) and RST (R330): PC, the address after the instruction, is pushed, high byte at SP−1 and low
byte at SP−2, SP is two lower, and PC is the target; a CALL not taken changes nothing. The opcodes are the spec's general
knowledge (log 13), the order of the stores its decision D17 (log 14). -/
def Obligations.Calls : Prop :=
  ∀ (s : State) (cc : Cond) (y : BitVec 3) (lo hi : Byte),
    let enter (target : Word) : State :=
      setPc target (setSp (s.cpu.sp - 2)
        (memWrite (s.cpu.sp - 2) (s.cpu.pc.extractLsb' 0 8) (memWrite (s.cpu.sp - 1) (s.cpu.pc.extractLsb' 8 8) s)))
    Executes [0xCD, lo, hi] s (enter (hi ++ lo)) ∧
    Executes [0xC4 + 8 * field cc.index, lo, hi] s (if Machine.cond cc s then enter (hi ++ lo) else s) ∧
    Executes [0xC7 + 8 * field y] s (enter (8 * y.setWidth 16))

/-- RET, RET cc (R327, R328) and RETI (R329): PC is popped, the low byte from SP, SP is two higher; RETI also sets IME at
once under `IRQ_IMPL = FULL` and is RET under NONE; a RET cc not taken changes nothing. The opcodes are the spec's general
knowledge (log 13), RETI's effect on IME its decisions D2 and D21 (log 14). -/
def Obligations.Returns : Prop :=
  ∀ (s : State) (cc : Cond),
    let back : State :=
      setPc (readByte s (s.cpu.sp + 1) ++ readByte s s.cpu.sp)
        (setSp (s.cpu.sp + 2) (afterRead (afterRead s s.cpu.sp) (s.cpu.sp + 1)))
    Executes [0xC9] s back ∧ Executes [0xC0 + 8 * field cc.index] s (if Machine.cond cc s then back else s) ∧
    Executes [0xD9] s
      (if s.config.irqImpl = .full then { back with cpu := { back.cpu with ime := true, imeScheduled := false } } else back)

/-! ### System -/

/-- NOP, HALT, STOP, DI, EI (R361 to R365) and the eleven illegal bytes (R366, R159): under `IRQ_IMPL = NONE` HALT, DI and EI
do nothing; STOP skips a byte; an illegal opcode is one diagnostic record with its address. These are the spec's decisions
D2, D19, D21, D22 and D27 (log 14), and the opcodes but HALT's its general knowledge (log 13). -/
def Obligations.SystemInstructions : Prop :=
  ∀ (s : State) (skipped : Byte),
    let full (t : State) : State := if s.config.irqImpl = .full then t else s
    Executes [0x00] s s ∧
    Executes [0x76] s (full { s with cpu := { s.cpu with halted := true } }) ∧
    Executes [0x10, skipped] s (setPc (s.cpu.pc + 1) s) ∧
    Executes [0xF3] s (full { s with cpu := { s.cpu with ime := false, imeScheduled := false } }) ∧
    Executes [0xFB] s (full { s with cpu := { s.cpu with imeScheduled := true } }) ∧
    ∀ op ∈ [0xD3, 0xDB, 0xDD, 0xE3, 0xE4, 0xEB, 0xEC, 0xED, 0xF4, 0xFC, (0xFD : Byte)],
      Executes [op] s { s with diag := s.diag ++ [⟨.unknownOpcode, s.cpu.pc - 1, op⟩] }

/-! ### The CB page -/

/-- Under `CB_IMPL = UNIMPLEMENTED` every CB opcode is one diagnostic record with the address of the 0xCB byte, and nothing
else (R368). That this is one of two settings is the spec's decision D1 (log 14). -/
def Obligations.CbUnimplemented : Prop :=
  ∀ (s : State) (cbop : Byte), s.config.cbImpl = .unimplemented →
    Executes [0xCB, cbop] s { s with diag := s.diag ++ [⟨.cbUnimplemented, s.cpu.pc - 2, cbop⟩] }

/-- The rotates, shifts and SWAP of the CB page (R401 to R408), on every operand, under `CB_IMPL = FULL`. These rules as a
whole are the spec's general knowledge (log 13). -/
def Obligations.CbRotates : Prop :=
  let bit (b : Bool) : Byte := if b then 1 else 0
  RotRuns 0 (fun v _ => v.rotateLeft 1) (·.getLsbD 7) ∧ RotRuns 1 (fun v _ => v.rotateRight 1) (·.getLsbD 0) ∧
  RotRuns 2 (fun v c => 2 * v + bit c) (·.getLsbD 7) ∧ RotRuns 3 (fun v c => (v >>> 1) + 128 * bit c) (·.getLsbD 0) ∧
  RotRuns 4 (fun v _ => 2 * v) (·.getLsbD 7) ∧ RotRuns 5 (fun v _ => v.sshiftRight 1) (·.getLsbD 0) ∧
  RotRuns 6 (fun v _ => v.rotateLeft 4) (fun _ => false) ∧ RotRuns 7 (fun v _ => v >>> 1) (·.getLsbD 0)

/-- BIT, RES and SET (R409 to R411), for every bit and every operand, under `CB_IMPL = FULL`: BIT writes Z, N and H only, and
reads a memory operand once; RES and SET always write the operand back, no flag changed. These rules as a whole are the
spec's general knowledge (log 13). -/
def Obligations.CbBits : Prop :=
  ∀ (s : State) (b : BitVec 3) (r : R8), s.config.cbImpl = .full →
    let v := r8Value r s
    Executes [0xCB, 0x40 + 8 * field b + field r.index] s
      (withF (flagByte (!v.getLsbD b.toNat) false true (flagC s)) (afterReadR8 r s)) ∧
    Executes [0xCB, 0x80 + 8 * field b + field r.index] s (writeR8 r (v &&& ~~~(1#8 <<< b.toNat)) (afterReadR8 r s)) ∧
    Executes [0xCB, 0xC0 + 8 * field b + field r.index] s (writeR8 r (v ||| (1#8 <<< b.toNat)) (afterReadR8 r s))

/-- The row PREFIX CB (R367): it fetches the second byte and is then the CB-page row that byte selects, under both settings
of `CB_IMPL`. In `s` PC is past the prefix byte only. That the row has a meaning of its own is the model's choice (log 5). -/
def Obligations.PrefixCb : Prop :=
  ∀ (s : State) (row : Instr), decode [0xCB, readByte s s.cpu.pc] = .ok (row, []) →
    exec .prefixCb s = exec row (afterFetch 1 s) ∧ ∃ t, exec .prefixCb s = .next t

/-! ### Frames -/

/-- The registers an instruction leaves alone: all but its destination and those its addressing or the stack updates, as
`writtenRegs` lists them for each form (R33 and each instruction's rule). Which registers a form names rests on the rules'
general knowledge (log 13) as those rules do. -/
def Obligations.RegisterFrame : Prop :=
  ∀ (i : Instr) (s t : State), exec i s = .next t → ∀ q : RegName, q ∉ writtenRegs i.form → q.value t = q.value s

/-- The flags an instruction leaves alone: all but those the table of R38 lists for it; and F's low nibble stays as it was or
is zero (R31). The table is in part the spec's general knowledge (log 13). -/
def Obligations.FlagFrame : Prop :=
  ∀ (i : Instr) (s t : State), exec i s = .next t →
    (∀ q : FlagName, q ∉ writtenFlags i.form → q.value t = q.value s) ∧
    (t.cpu.f &&& 0x0F = 0 ∨ t.cpu.f = s.cpu.f)

/-- PC and the interrupt control state: an instruction that does not transfer control leaves PC at the next sequential
address (R35), and only DI, EI, RETI and HALT change IME, `ime_scheduled` or `halted`, under `IRQ_IMPL = FULL` only (R65,
R39). The interrupt control state is the spec's decisions D2 and D21 (log 14); that it is held under NONE too is the model's
choice (log 9). -/
def Obligations.ControlFrame : Prop :=
  ∀ (i : Instr) (s t : State), exec i s = .next t →
    (writesPc i.form = false → t.cpu.pc = s.cpu.pc) ∧
    (writesInterruptState i.form = false ∨ s.config.irqImpl = .none →
      t.cpu.ime = s.cpu.ime ∧ t.cpu.imeScheduled = s.cpu.imeScheduled ∧ t.cpu.halted = s.cpu.halted)

/-- Everything that is neither CPU register nor memory unit: no instruction changes the configuration, the cartridge, the
PPU, the timer, the pressed buttons or the boot stage, and diagnostics are only appended (R43, R44, R45, R46, R48, R125). An
instruction that stores nothing changes nothing of the memory unit either. That diagnostics are kept as a list is the model's
choice (log 7). -/
def Obligations.MachineFrame : Prop :=
  ∀ (i : Instr) (s t : State), exec i s = .next t →
    t.config = s.config ∧ t.cart = s.cart ∧ t.ppu = s.ppu ∧ t.timer = s.timer ∧ t.pressedMask = s.pressedMask ∧
    t.stage = s.stage ∧ s.diag <+: t.diag ∧
    (WellFormed i = true → storedByte i.form s = none → storedWord i.form s = none → t.mmu = s.mmu)

/-- The memory an instruction leaves alone, through the read of one byte. Storing nothing, it leaves every read as it was.
Storing one byte at the address its form computes, it leaves every read as it was but those that store reaches (R118, R66).
Storing two, at the two addresses its form computes, every read but those that the first store reaches, or the second in the
state the first left (R117). The order of two stores is the spec's decision D17 (log 14). -/
def Obligations.MemoryFrame : Prop :=
  ∀ (i : Instr) (s t : State), WellFormed i = true → exec i s = .next t → ∀ x : Word,
    (storedByte i.form s = none → storedWord i.form s = none → readByte t x = readByte s x) ∧
    (∀ a, storedByte i.form s = some a → ¬ storeReaches s a x → readByte t x = readByte s x) ∧
    (∀ a v b w, storedWord i.form s = some ((a, v), (b, w)) →
      ¬ storeReaches s a x → ¬ storeReaches (memWrite a v s) b x → readByte t x = readByte s x)

/-! ### The memory unit -/

/-- ROM (R82, R83, R84): bank 0 at 0x0000–0x3FFF whatever the selectors, the effective bank at 0x4000–0x7FFF, with bank 0
replaced by 1 after the modulo; past the image a read gives 0xFF and one diagnostic record, and inside it none. What is read
past the image, and its diagnostic, are the spec's decisions D5, D30 and D37 (log 14). -/
def Obligations.ReadRom : Prop :=
  ∀ (s : State) (x : Word), x.toNat < 0x8000 →
    let combined := s.mmu.romBankHigh.toNat * 32 + s.mmu.romBankLow.toNat
    let bank := if combined % s.cart.numRomBanks = 0 ∧ s.cart.numRomBanks > 1 then 1 else combined % s.cart.numRomBanks
    let i := if x.toNat < 0x4000 then x.toNat else bank * 0x4000 + (x.toNat - 0x4000)
    memRead s x =
      if i < s.cart.romSize then (s.cart.rom.byteAt i, s)
      else (0xFF, { s with diag := s.diag ++ [⟨.readPastRom, x, 0xFF⟩] })

/-- External RAM (R86, R87), work RAM (R88) and its echo (R89), the unusable range (R91), HRAM (R93) and IE (R94): what each
range reads, with no diagnostic and no change of state; the index is inside external RAM, and the second work RAM bank is 1
to 7. -/
def Obligations.ReadRam : Prop :=
  ∀ (s : State) (x : Word),
    let ramBank := if s.mmu.bankingMode = 0 ∨ s.cart.numRamBanks = 0 then 0 else s.mmu.romBankHigh.toNat % s.cart.numRamBanks
    (inRange 0xA000 0xBFFF x → memRead s x =
      if s.cart.numRamBanks = 0 ∨ s.mmu.ramEnabled = false then (0xFF, s)
      else (s.mmu.eram.byteAt (ramBank * 0x2000 + (x.toNat - 0xA000)), s)) ∧
    (inRange 0xA000 0xBFFF x → s.cart.numRamBanks ≠ 0 →
      ramBank * 0x2000 + (x.toNat - 0xA000) < s.cart.numRamBanks * 0x2000) ∧
    (inRange 0xC000 0xCFFF x → memRead s x = (s.mmu.wram.byteAt (x.toNat - 0xC000), s)) ∧
    (inRange 0xD000 0xDFFF x → memRead s x = (s.mmu.wram.byteAt (s.mmu.wramBank.toNat * 0x1000 + (x.toNat - 0xD000)), s)) ∧
    (Inv s → 1 ≤ s.mmu.wramBank.toNat ∧ s.mmu.wramBank.toNat ≤ 7) ∧
    (inRange 0xE000 0xFDFF x → memRead s x = memRead s (x - 0x2000)) ∧
    (inRange 0xFEA0 0xFEFF x → memRead s x = (0xFF, s)) ∧
    (inRange 0xFF80 0xFFFE x → memRead s x = (s.mmu.hram.byteAt (x.toNat - 0xFF80), s)) ∧
    (x = 0xFFFF → memRead s x = (s.mmu.ie, s))

/-- VRAM (R85), OAM (R90) and the I/O slots with their overlays (R92): VRAM and OAM whatever the PPU's mode, P1 the
projection of R480, VBK and SVBK the selectors with their unused bits set, every other slot raw. That no mode restricts the
access, and that P1 is computed at the read, are the spec's decisions D24 and D7 (log 14). -/
def Obligations.ReadVideoAndIo : Prop :=
  ∀ (s : State) (x : Word),
    (inRange 0x8000 0x9FFF x → memRead s x = (s.mmu.vram.byteAt (s.mmu.vramBank.toNat * 0x2000 + (x.toNat - 0x8000)), s)) ∧
    (inRange 0xFE00 0xFE9F x → memRead s x = (s.mmu.oam.byteAt (x.toNat - 0xFE00), s)) ∧
    (x = 0xFF00 → memRead s x = (joypRead (slot s 0x00) s.pressedMask, s)) ∧
    (x = 0xFF4F → memRead s x = (if s.mmu.vramBank = 0 then 0xFE else 0xFF, s)) ∧
    (x = 0xFF70 → memRead s x = (BitVec.ofNat 8 (0xF8 + s.mmu.wramBank.toNat), s)) ∧
    (inRange 0xFF00 0xFF7F x → x ≠ 0xFF00 → x ≠ 0xFF4F → x ≠ 0xFF70 → memRead s x = (slot s (x.toNat - 0xFF00), s))

/-- Cartridge control with MBC1 (R95): each range changes its selector and nothing else, so never the image; the new value is
the one the next read uses. -/
def Obligations.WriteCartControl : Prop :=
  ∀ (s : State) (x : Word) (v : Byte), s.cart.cartType = 0x01 ∨ s.cart.cartType = 0x02 ∨ s.cart.cartType = 0x03 →
    let low5 : BitVec 5 := BitVec.ofNat 5 (v.toNat % 32)
    (inRange 0x0000 0x1FFF x → memWrite x v s = { s with mmu := { s.mmu with ramEnabled := decide (v &&& 0x0F = 0x0A) } }) ∧
    (inRange 0x2000 0x3FFF x →
      memWrite x v s = { s with mmu := { s.mmu with romBankLow := if low5 = 0 then 1 else low5 } }) ∧
    (inRange 0x4000 0x5FFF x →
      memWrite x v s = { s with mmu := { s.mmu with romBankHigh := BitVec.ofNat 2 (v.toNat % 4) } }) ∧
    (inRange 0x6000 0x7FFF x →
      memWrite x v s = { s with mmu := { s.mmu with bankingMode := BitVec.ofNat 1 (v.toNat % 2) } })

/-- Writes with no effect on memory: to 0x0000–0x7FFF without MBC1 (R96), to external RAM that is absent or disabled (R98),
and to the unusable range, which is one diagnostic record (R102). These are the spec's decisions D4, D6 and D26 (log 14). -/
def Obligations.WriteDiscarded : Prop :=
  ∀ (s : State) (x : Word) (v : Byte),
    (x.toNat < 0x8000 → s.cart.cartType ≠ 0x01 → s.cart.cartType ≠ 0x02 → s.cart.cartType ≠ 0x03 → memWrite x v s = s) ∧
    (inRange 0xA000 0xBFFF x → (s.cart.numRamBanks = 0 ∨ s.mmu.ramEnabled = false) → memWrite x v s = s) ∧
    (inRange 0xFEA0 0xFEFF x → memWrite x v s = { s with diag := s.diag ++ [⟨.writeUnusable, x, v⟩] })

/-- Writes to VRAM (R97), work RAM (R99), its echo (R100), OAM (R101), HRAM (R104) and IE (R105): one byte changes and
nothing else; in work RAM and HRAM it reads back. -/
def Obligations.WriteRam : Prop :=
  ∀ (s : State) (x : Word) (v : Byte),
    (inRange 0x8000 0x9FFF x → memWrite x v s =
      { s with mmu := { s.mmu with vram := s.mmu.vram.store (s.mmu.vramBank.toNat * 0x2000 + (x.toNat - 0x8000)) v } }) ∧
    (inRange 0xC000 0xCFFF x → memWrite x v s = { s with mmu := { s.mmu with wram := s.mmu.wram.store (x.toNat - 0xC000) v } }) ∧
    (inRange 0xD000 0xDFFF x → memWrite x v s =
      { s with mmu := { s.mmu with wram := s.mmu.wram.store (s.mmu.wramBank.toNat * 0x1000 + (x.toNat - 0xD000)) v } }) ∧
    (inRange 0xE000 0xFDFF x → memWrite x v s = memWrite (x - 0x2000) v s) ∧
    (inRange 0xFE00 0xFE9F x → memWrite x v s = { s with mmu := { s.mmu with oam := s.mmu.oam.store (x.toNat - 0xFE00) v } }) ∧
    (inRange 0xFF80 0xFFFE x → memWrite x v s = { s with mmu := { s.mmu with hram := s.mmu.hram.store (x.toNat - 0xFF80) v } }) ∧
    (x = 0xFFFF → memWrite x v s = { s with mmu := { s.mmu with ie := v } }) ∧
    (Inv s → inRange 0xC000 0xDFFF x ∨ inRange 0xFF80 0xFFFE x → memRead (memWrite x v s) x = (v, memWrite x v s))

/-- VBK (R110) and SVBK (R111): the write sets the selector, 0 becoming 1 for SVBK, and stores the raw byte. -/
def Obligations.WriteBankSelectors : Prop :=
  ∀ (s : State) (v : Byte),
    let low3 : BitVec 3 := BitVec.ofNat 3 (v.toNat % 8)
    memWrite 0xFF4F v s =
      { s with mmu := { s.mmu with io := s.mmu.io.store 0x4F v, vramBank := BitVec.ofNat 1 (v.toNat % 2) } } ∧
    memWrite 0xFF70 v s =
      { s with mmu := { s.mmu with io := s.mmu.io.store 0x70 v, wramBank := if low3 = 0 then 1 else low3 } }

/-- Enabled external RAM (R98) and the I/O slots other than DMA and the bank selectors (R103, R113): the byte is stored, but
for DIV, which becomes 0 whatever is written, its accumulator kept. That STAT, LY and unnamed slots store, and that the
accumulator is kept, are the spec's decisions D28, D32 and D13 (log 14). -/
def Obligations.WriteEramAndIo : Prop :=
  ∀ (s : State) (x : Word) (v : Byte),
    let ramBank := if s.mmu.bankingMode = 0 then 0 else s.mmu.romBankHigh.toNat % s.cart.numRamBanks
    (inRange 0xA000 0xBFFF x → s.cart.numRamBanks ≠ 0 → s.mmu.ramEnabled = true → memWrite x v s =
      { s with mmu := { s.mmu with eram := s.mmu.eram.store (ramBank * 0x2000 + (x.toNat - 0xA000)) v } }) ∧
    (x = 0xFF04 → memWrite x v s = { s with mmu := { s.mmu with io := s.mmu.io.store 0x04 0x00 } }) ∧
    (inRange 0xFF00 0xFF7F x → x ≠ 0xFF04 → x ≠ 0xFF46 → x ≠ 0xFF4F → x ≠ 0xFF70 →
      memWrite x v s = { s with mmu := { s.mmu with io := s.mmu.io.store (x.toNat - 0xFF00) v } })

/-- The OAM DMA (R112): the 160 bytes from `v * 256` on, as they read before the write, are in OAM after it, the slot reads
back `v`, and nothing else reads differently or changes but the diagnostics. That nothing restricts the CPU meanwhile is the
spec's decision D24 (log 14). -/
def Obligations.OamDma : Prop :=
  ∀ (s : State) (v : Byte), Inv s →
    let t := memWrite 0xFF46 v s
    (∀ i, i < 160 → readByte t (0xFE00 + BitVec.ofNat 16 i) = readByte s (BitVec.ofNat 16 (v.toNat * 256 + i))) ∧
    readByte t 0xFF46 = v ∧
    (∀ x, ¬ inRange 0xFE00 0xFE9F x → x ≠ 0xFF46 → readByte t x = readByte s x) ∧
    t = { s with mmu := { s.mmu with oam := t.mmu.oam, io := s.mmu.io.store 0x46 v }, diag := t.diag } ∧
    t.diag = s.diag ++ (List.range 160).flatMap fun i => readDiag s (BitVec.ofNat 16 (v.toNat * 256 + i))

/-- A byte stored in VRAM, external RAM that answers, work RAM or its echo, OAM, HRAM, IE, or an I/O slot other than P1, DIV,
VBK and SVBK reads back (R99, R104; R97, R98, R100, R101, R103, R105). That disabled external RAM is excluded, and that
unnamed slots store, rests on decisions D6, D28 and D32 (log 14). -/
def Obligations.StoredByteReadsBack : Prop :=
  ∀ (s : State) (x : Word) (v : Byte), Inv s →
    (inRange 0x8000 0x9FFF x ∨ inRange 0xC000 0xFE9F x ∨ inRange 0xFF80 0xFFFF x ∨
      (inRange 0xA000 0xBFFF x ∧ s.cart.numRamBanks ≠ 0 ∧ s.mmu.ramEnabled = true) ∨
      (inRange 0xFF01 0xFF7F x ∧ x ≠ 0xFF04 ∧ x ≠ 0xFF4F ∧ x ≠ 0xFF70)) →
    readByte (memWrite x v s) x = v

/-! ### The peripherals -/

/-- A PPU step with the LCD off (R461): LY, dot, mode and the latch are zero, the LY slot is zero, STAT keeps bits 7..3 and
shows mode 0 and the comparison of line 0 with LYC, and nothing else changes, whatever the cycles. Read back, LY is 0 and
STAT's mode bits are 0. The addresses of LCDC and LYC are the spec's general knowledge (log 13). -/
def Obligations.PpuOff : Prop :=
  ∀ (s : State) (c : Nat), Inv s → (slot s 0x40).getLsbD 7 = false →
    let t := ppuStep c s
    t.ppu = { dot := 0, ly := 0, mode := .hblank, vblankLatched := false } ∧ slot t 0x44 = 0 ∧
    slot t 0x41 = (slot s 0x41 &&& 0xF8) ||| (if slot s 0x45 = 0 then 0x04 else 0x00) ∧
    (∀ k, k ≠ 0x41 → k ≠ 0x44 → slot t k = slot s k) ∧
    t = { s with ppu := t.ppu, mmu := { s.mmu with io := t.mmu.io } } ∧
    readByte t 0xFF44 = 0 ∧ readByte t 0xFF41 &&& 0x03 = 0

/-- A PPU step with the LCD on (R460, R462, R463), for any number of cycles at once: the beam, line and dot as one number,
advances by four dots a cycle modulo a frame of 154 lines of 456 dots; the mode is that of the line and the dot; LY's slot is
rewritten when the line changes; VBlank is requested exactly if line 144 is entered; STAT shows the mode and the comparison
with LYC. The addresses of LCDC and LYC are the spec's general knowledge (log 13), the corners of a long step its decisions
D36 and D39 (log 14). -/
def Obligations.PpuOn : Prop :=
  ∀ (s : State) (c : Nat), Inv s → (slot s 0x40).getLsbD 7 = true →
    let t := ppuStep c s
    let lines := (s.ppu.dot + 4 * c) / 456
    t.ppu.ly * 456 + t.ppu.dot = (s.ppu.ly * 456 + s.ppu.dot + 4 * c) % (154 * 456) ∧ t.ppu.dot < 456 ∧
    t.ppu.mode = (if t.ppu.ly ≥ 144 then .vblank else if t.ppu.dot < 80 then .oamSearch
      else if t.ppu.dot < 252 then .transfer else .hblank) ∧
    slot t 0x44 = (if lines = 0 then slot s 0x44 else BitVec.ofNat 8 t.ppu.ly) ∧
    ((∃ k, 1 ≤ k ∧ k ≤ lines ∧ (s.ppu.ly + k) % 154 = 144) → slot t 0x0F = slot s 0x0F ||| 0x01) ∧
    ((∀ k, 1 ≤ k → k ≤ lines → (s.ppu.ly + k) % 154 ≠ 144) → slot t 0x0F = slot s 0x0F) ∧
    slot t 0x41 =
      (slot s 0x41 &&& 0xF8) ||| (if t.ppu.ly = (slot s 0x45).toNat then 0x04 else 0x00) |||
        (match t.ppu.mode with | .hblank => 0 | .vblank => 1 | .oamSearch => 2 | .transfer => 3) ∧
    (∀ k, k ≠ 0x0F → k ≠ 0x41 → k ≠ 0x44 → slot t k = slot s k) ∧
    t = { s with ppu := t.ppu, mmu := { s.mmu with io := t.mmu.io } }

/-- DIV under a timer step (R471): one increment, modulo 256, for every 256 cycles accumulated, whatever TAC says. That a
write of DIV keeps the accumulator is decision D13 (log 14). -/
def Obligations.TimerDiv : Prop :=
  ∀ (s : State) (c : Nat), Inv s →
    let t := timerStep c s
    slot t 0x04 = slot s 0x04 + BitVec.ofNat 8 ((s.timer.divAcc + c) / 256) ∧
    t.timer.divAcc = (s.timer.divAcc + c) % 256 ∧
    (∀ k, k ≠ 0x04 → k ≠ 0x05 → k ≠ 0x0F → slot t k = slot s k) ∧
    t = { s with timer := t.timer, mmu := { s.mmu with io := t.mmu.io } }

/-- TIMA under a timer step (R472): frozen, with its accumulator, while TAC bit 2 is 0; else one increment for every period
accumulated, 0xFF reloading from TMA and requesting the timer interrupt. When TAC is read and what becomes of the accumulator
are the spec's decisions D12 and D14 (log 14). -/
def Obligations.TimerTima : Prop :=
  ∀ (s : State) (c : Nat), Inv s →
    let t := timerStep c s
    let tac := slot s 0x07
    let period := if tac.toNat % 4 = 0 then 1024 else if tac.toNat % 4 = 1 then 16 else if tac.toNat % 4 = 2 then 64 else 256
    let n := (s.timer.timaAcc + c) / period
    let overflows := ∃ j, j < n ∧ timaAfter (slot s 0x06) j (slot s 0x05) = 0xFF
    (tac.getLsbD 2 = false →
      slot t 0x05 = slot s 0x05 ∧ slot t 0x0F = slot s 0x0F ∧ t.timer.timaAcc = s.timer.timaAcc) ∧
    (tac.getLsbD 2 = true →
      slot t 0x05 = timaAfter (slot s 0x06) n (slot s 0x05) ∧ t.timer.timaAcc = (s.timer.timaAcc + c) % period ∧
      (overflows → slot t 0x0F = slot s 0x0F ||| 0x04) ∧ (¬ overflows → slot t 0x0F = slot s 0x0F))

/-- The joypad (R480, R481, R482): in a read of P1 bits 7..6 are 1, bits 5..4 are the stored selection, and bit `k` of the
low nibble is 0 exactly if a selected group's button `k` is pressed. A refresh stores that projection in P1's slot, so bits
7..6 become 1, bits 5..4 stay and the low nibble is the projection's; it changes nothing else, and no read. A button press
changes its own bit of the mask, refreshes P1 with the new mask, and changes nothing else: it requests no interrupt. That a
read computes the projection, and that a press requests no interrupt, are the spec's decisions D7 and D38 (log 14). -/
def Obligations.Joypad : Prop :=
  ∀ (s : State) (button : Fin 8) (pressed : Bool), Inv s →
    (let p1 := readByte s 0xFF00
     p1 = joypRead (slot s 0x00) s.pressedMask ∧
     p1.getLsbD 7 = true ∧ p1.getLsbD 6 = true ∧ p1.getLsbD 5 = (slot s 0x00).getLsbD 5 ∧
     p1.getLsbD 4 = (slot s 0x00).getLsbD 4 ∧
     ∀ k, k < 4 → p1.getLsbD k =
       !((!(slot s 0x00).getLsbD 5 && s.pressedMask.getLsbD k) || (!(slot s 0x00).getLsbD 4 && s.pressedMask.getLsbD (k + 4)))) ∧
    (let t := updateRegister s
     slot t 0x00 = joypRead (slot s 0x00) s.pressedMask ∧ (∀ k, k ≠ 0 → slot t k = slot s k) ∧
     t = { s with mmu := { s.mmu with io := t.mmu.io } } ∧ ∀ x, readByte t x = readByte s x) ∧
    (let t := setButton button pressed s
     (∀ k, k < 8 → t.pressedMask.getLsbD k = if k = button.val then pressed else s.pressedMask.getLsbD k) ∧
     slot t 0x00 = joypRead (slot s 0x00) t.pressedMask ∧ (∀ k, k ≠ 0 → slot t k = slot s k) ∧
     t = { s with pressedMask := t.pressedMask, mmu := { s.mmu with io := t.mmu.io } })

/-! ### Reset and boot -/

/-- The console reset (R520 to R526, R67): every state element has the value of the table, the image, its header values, the
configuration and the diagnostics are kept, and a second reset changes nothing. The values of the slots, the PPU, the timer
and P1 are the spec's decisions D8 to D11 (log 14). -/
def Obligations.ConsoleReset : Prop :=
  ∀ (s : State),
    let t := consoleReset s
    t.cpu = { a := 0, f := 0, b := 0, c := 0, d := 0, e := 0, h := 0, l := 0, sp := 0xFFFE, pc := 0x0100,
              ime := false, imeScheduled := false, halted := false } ∧
    (∀ i, t.mmu.eram.byteAt i = 0 ∧ t.mmu.wram.byteAt i = 0 ∧ t.mmu.vram.byteAt i = 0 ∧ t.mmu.oam.byteAt i = 0 ∧
      t.mmu.hram.byteAt i = 0 ∧ slot t i = if i = 0 then 0xFF else 0x00) ∧
    t.mmu.ie = 0 ∧ t.mmu.romBankLow = 1 ∧ t.mmu.romBankHigh = 0 ∧ t.mmu.bankingMode = 0 ∧ t.mmu.ramEnabled = false ∧
    t.mmu.vramBank = 0 ∧ t.mmu.wramBank = 1 ∧
    t.ppu = { dot := 0, ly := 0, mode := .hblank, vblankLatched := false } ∧ t.timer = { divAcc := 0, timaAcc := 0 } ∧
    t.pressedMask = 0 ∧ t.cart = s.cart ∧ t.config = s.config ∧ t.diag = s.diag ∧
    readByte t 0xFF00 = 0xFF ∧ readByte t 0xFF4F = 0xFE ∧ readByte t 0xFF70 = 0xF9 ∧
    consoleReset t = t

/-- The cartridge load (R120, R121): a non-empty image is taken whole, its header values are those of the tables, or the
fallback's, and the memory unit is reset and nothing else; an empty or unreadable one fails, and then the machine does not
run (R528). The short image and the refusal are the spec's decisions D29 and D35 (log 14), with log 3 for what follows a
failed load. -/
def Obligations.LoadRom : Prop :=
  ∀ (s : State) (image : List Byte),
    let n := image.length
    let t := (loadRom (some image) s).1
    let bySize := max 1 (n / 16384)
    let romBanks (code : Byte) : Nat :=
      (([(0x00, 2), (0x01, 4), (0x02, 8), (0x03, 16), (0x04, 32), (0x05, 64), (0x06, 128), (0x07, 256), (0x08, 512),
        (0x52, 72), (0x53, 80), (0x54, 96)] : List (Byte × Nat)).lookup code).getD bySize
    let ramBanks (code : Byte) : Nat :=
      (([(0x00, 0), (0x01, 0), (0x02, 1), (0x03, 4), (0x04, 16), (0x05, 8)] : List (Byte × Nat)).lookup code).getD 0
    (n ≠ 0 →
      (loadRom (some image) s).2 = true ∧ t.cart.romSize = n ∧ (∀ a, a < n → t.cart.rom.byteAt a = image.getD a 0) ∧
      (n ≥ 0x150 → t.cart.cartType = image.getD 0x147 0 ∧ t.cart.numRomBanks = romBanks (image.getD 0x148 0) ∧
        t.cart.numRamBanks = ramBanks (image.getD 0x149 0)) ∧
      (n < 0x150 → t.cart.cartType = 0 ∧ t.cart.numRomBanks = bySize ∧ t.cart.numRamBanks = 0) ∧
      t.mmu = (mmuReset s).mmu ∧ t.cpu = s.cpu ∧ t.ppu = s.ppu ∧ t.timer = s.timer ∧ t.pressedMask = s.pressedMask ∧
      t.diag = s.diag ∧ t.config = s.config ∧ (consoleReset t).stage = .runnable) ∧
    (∀ bad, bad = none ∨ bad = some [] →
      (loadRom bad s).2 = false ∧ (loadRom bad s).1.cart = s.cart ∧ step (loadRom bad s).1 = .refused .notRunnable)

/-! ### The step -/

/-- A step runs the decoded instruction (R360, R491): if it is neither an interrupt service nor an idle step, and the bytes
at PC decode to a whole instruction, then under `IRQ_IMPL = FULL` HALT ends and a deferred EI takes effect, PC moves past the
bytes fetched (STOP's second byte is not fetched, R363), the step is `exec` of the instruction in that state, and then, with
the instruction's cycle count in R540's table, the tail of the run loop (`runTail`); in that tail `apu_step` does nothing
(R485). The order of the step and of its tail is the spec's decisions D21 and D31 (log 14), the cycle table its general
knowledge (log 13), the step as one iteration of the run the model's choice (log 10). -/
def Obligations.StepRunsDecodedInstruction : Prop :=
  (∀ (c : Nat) (u : State), apuStep c u = u) ∧
  ∀ (s : State) (i : Instr) (rest : List Byte),
    let pc := s.cpu.pc
    let woken : State :=
      if s.config.irqImpl = .full then
        { s with cpu := { s.cpu with ime := s.cpu.ime || s.cpu.imeScheduled, imeScheduled := false, halted := false } }
      else s
    let s1 := afterFetch (if i = .stop then 1 else (encode i).length) woken
    s.stage = .runnable → ¬ willService s → ¬ willIdle s →
    decode [readByte s pc, readByte s (pc + 1), readByte s (pc + 2)] = .ok (i, rest) →
    ∃ t, exec i s1 = .next t ∧ step s = .next (runTail (tableCount (readByte s pc) (readByte s (pc + 1)) s) t)

/-- The interrupt service (R441, R442, R443): with IME set and something pending and enabled, the step executes nothing; the
lowest pending bit `n` is chosen, PC is pushed, PC is `0x40 + 8n`, IF bit `n` alone is cleared, after the push, IME and
`ime_scheduled` are false and HALT ends; no other register changes. It takes 5 cycles, with which the tail of the run loop
follows (`runTail`). This is the spec's decisions D21, D23, D27 and D31 (log 14), the step as one iteration of the run the
model's choice (log 10). -/
def Obligations.InterruptService : Prop :=
  ∀ (s : State), Inv s → s.stage = .runnable → willService s →
    let pending5 (m : Nat) : Prop := m < 5 ∧ s.mmu.ie.getLsbD m = true ∧ (slot s 0x0F).getLsbD m = true
    let pushed := memWrite (s.cpu.sp - 2) (s.cpu.pc.extractLsb' 0 8) (memWrite (s.cpu.sp - 1) (s.cpu.pc.extractLsb' 8 8) s)
    ∃ n, pending5 n ∧ (∀ m, m < n → ¬ pending5 m) ∧ ∃ t, step s = .next (runTail 5 t) ∧
      t.cpu = { s.cpu with
        sp := s.cpu.sp - 2, pc := BitVec.ofNat 16 (0x40 + 8 * n), ime := false, imeScheduled := false, halted := false } ∧
      slot t 0x0F = slot pushed 0x0F &&& ~~~(1#8 <<< n) ∧ (∀ k, k ≠ 0x0F → slot t k = slot pushed k) ∧
      t = { pushed with cpu := t.cpu, mmu := { pushed.mmu with io := t.mmu.io } }

/-- A halted CPU with nothing pending and enabled stays as it is (R360, R362): the step fetches nothing and takes one cycle,
with which the tail of the run loop follows (`runTail`). This is the spec's decisions D21, D27 and D31 (log 14), the step as
one iteration of the run the model's choice (log 10). -/
def Obligations.HaltIdles : Prop :=
  ∀ (s : State), s.stage = .runnable → willIdle s → step s = .next (runTail 1 s)

/-- The EI delay (R365, R536), from IME false, whatever is pending. The step of EI leaves IME false, so the step after it
takes no interrupt. If that one is DI, IME is false after it and nothing of the memory unit has changed. If it is any other
instruction, IME is true after it, and if something is then pending and enabled, the next step services it: PC goes to a
vector, SP is two lower, IME is false, 5 cycles. This is the spec's decision D21 (log 14), the opcodes its general knowledge
(log 13). -/
def Obligations.EiDelay : Prop :=
  ∀ (s : State), s.config.irqImpl = .full → s.cpu.ime = false → s.cpu.imeScheduled = false → s.cpu.halted = false →
    readByte s s.cpu.pc = 0xFB →
    ∃ t, cpuStep s = .next (t, 1) ∧ t.cpu = { s.cpu with pc := s.cpu.pc + 1, imeScheduled := true } ∧ t.mmu = s.mmu ∧
      (readByte s (s.cpu.pc + 1) = 0xF3 →
        ∃ u, cpuStep t = .next (u, 1) ∧ u.cpu = { s.cpu with pc := s.cpu.pc + 2 } ∧ u.mmu = s.mmu) ∧
      (readByte s (s.cpu.pc + 1) ≠ 0xF3 →
        ∃ u c, cpuStep t = .next (u, c) ∧ u.cpu.ime = true ∧ u.cpu.imeScheduled = (readByte s (s.cpu.pc + 1) == 0xFB) ∧
          (u.mmu.ie &&& slot u 0x0F &&& 0x1F ≠ 0 →
            ∃ v n, cpuStep u = .next (v, 5) ∧ n < 5 ∧ v.cpu.pc = BitVec.ofNat 16 (0x40 + 8 * n) ∧
              v.cpu.sp = u.cpu.sp - 2 ∧ v.cpu.ime = false))

/-- No run ends inside the core (R373, R430): a booted machine always has a next state, which is booted, with the same
configuration, cartridge and pressed buttons, and diagnostics only appended; a machine that is not booted refuses (R528). The
refusal before boot is the spec's decision D35 (log 14). -/
def Obligations.StepNeverStops : Prop :=
  ∀ (s : State),
    (s.stage = .runnable → ∃ t, step s = .next t ∧ t.stage = .runnable ∧ t.config = s.config ∧ t.cart = s.cart ∧
      t.pressedMask = s.pressedMask ∧ s.diag <+: t.diag) ∧
    (s.stage ≠ .runnable → step s = .refused .notRunnable)

/-! ### The invariant -/

/-- The state right after reset meets the invariant. The cartridge values before a load are the model's choice (log 3). -/
def Obligations.ResetInv : Prop := Inv State.reset

/-- Every step keeps the invariant: the ranges of R31, R39, R41 to R45, R96, and the arrays' canonical form. The canonical
form of the arrays is the model's own (log 2). -/
def Obligations.StepKeepsInv : Prop :=
  ∀ (s t : State), Inv s → step s = .next t → Inv t

/-- So does every action of the host (R500). The canonical form of the arrays is the model's own (log 2), and the host
actions the spec's decision D34 (log 14). -/
def Obligations.HostKeepsInv : Prop :=
  ∀ (act : HostAction) (s t : State) (reply : HostReply), Inv s → hostAct act s = .next (t, reply) → Inv t

end Statements
end

