-- ==== Sys2Proof/Laws/Memory.lean ====
section
/-! SUPPORT. The laws of byte arrays: a read after a store, the canonical form, and equality of arrays by their bytes. -/

namespace Sys2Proof.Machine

theorem Memory.byteAt_consUnlessDefault_other {i j : Nat} (v : Byte) (m : Memory) (h : i ≠ j) :
    (consUnlessDefault i v m).byteAt j = m.byteAt j := by
  unfold consUnlessDefault
  split
  · rfl
  · simp [byteAt, h]

/-- Every index below all the listed ones reads as unlisted. -/
theorem Memory.byteAt_of_forall_gt {m : Memory} {i : Nat} (h : ∀ c ∈ m, i < c.1) : m.byteAt i = unlisted := by
  induction m with
  | nil => rfl
  | cons c rest ih =>
    obtain ⟨k, w⟩ := c
    have hk : i < k := h _ List.mem_cons_self
    simp only [byteAt, if_neg (by omega : ¬ k = i)]
    exact ih fun c hc => h c (List.mem_cons_of_mem _ hc)

theorem Memory.byteAt_consUnlessDefault_same {m : Memory} {i : Nat} (v : Byte) (h : ∀ c ∈ m, i < c.1) :
    (consUnlessDefault i v m).byteAt i = v := by
  unfold consUnlessDefault
  split
  · rename_i hv; rw [hv, byteAt_of_forall_gt h]
  · simp [byteAt]

/-- A store leaves every other byte alone. -/
theorem Memory.byteAt_store_other (m : Memory) {i j : Nat} (v : Byte) (h : i ≠ j) : (m.store i v).byteAt j = m.byteAt j := by
  induction m with
  | nil => exact byteAt_consUnlessDefault_other v [] h
  | cons c rest ih =>
    obtain ⟨k, w⟩ := c
    unfold store
    split
    · exact byteAt_consUnlessDefault_other v _ h
    · split
      · rename_i hik
        rw [byteAt_consUnlessDefault_other v _ h]
        simp [byteAt, show ¬ k = j by omega]
      · simp only [byteAt, ih]

/-- The stored byte reads back, in an array in canonical order. -/
theorem Memory.byteAt_store_same {m : Memory} (hm : m.Pairwise fun x y => x.1 < y.1) (i : Nat) (v : Byte) :
    (m.store i v).byteAt i = v := by
  induction m with
  | nil => exact byteAt_consUnlessDefault_same v (by simp)
  | cons c rest ih =>
    obtain ⟨k, w⟩ := c
    obtain ⟨hk, hrest⟩ := List.pairwise_cons.1 hm
    unfold store
    split
    · rename_i hik
      refine byteAt_consUnlessDefault_same v fun c hc => ?_
      rcases List.mem_cons.1 hc with rfl | hc
      · exact hik
      · exact Nat.lt_trans hik (hk c hc)
    · split
      · rename_i hik
        exact byteAt_consUnlessDefault_same v fun c hc => hik ▸ hk c hc
      · rename_i hne
        simp only [byteAt, if_neg (Ne.symm hne)]
        exact ih hrest

/-- What a store may list: the stored cell and the cells listed before, at other indices. -/
theorem Memory.mem_store {m : Memory} {i : Nat} {v : Byte} {c : Host.Cell} (h : c ∈ m.store i v) :
    (c = (i, v) ∧ v ≠ unlisted) ∨ c ∈ m := by
  induction m with
  | nil =>
    simp only [store, consUnlessDefault] at h
    split at h
    · simp at h
    · rename_i hv; exact .inl ⟨by simpa using h, hv⟩
  | cons d rest ih =>
    obtain ⟨k, w⟩ := d
    unfold store consUnlessDefault at h
    split at h
    · split at h
      · exact .inr h
      · rename_i hv
        rcases List.mem_cons.1 h with rfl | h
        · exact .inl ⟨rfl, hv⟩
        · exact .inr h
    · split at h
      · split at h
        · exact .inr (List.mem_cons_of_mem _ h)
        · rename_i hv
          rcases List.mem_cons.1 h with rfl | h
          · exact .inl ⟨rfl, hv⟩
          · exact .inr (List.mem_cons_of_mem _ h)
      · rcases List.mem_cons.1 h with rfl | h
        · exact .inr List.mem_cons_self
        · exact (ih h).imp id (List.mem_cons_of_mem _)

theorem Memory.pairwise_consUnlessDefault {m : Memory} {i : Nat} (v : Byte) (h : ∀ c ∈ m, i < c.1)
    (hm : m.Pairwise fun x y => x.1 < y.1) : (consUnlessDefault i v m).Pairwise fun x y => x.1 < y.1 := by
  unfold consUnlessDefault
  split
  · exact hm
  · exact List.pairwise_cons.2 ⟨h, hm⟩

theorem Memory.pairwise_store {m : Memory} (i : Nat) (v : Byte) (hm : m.Pairwise fun x y => x.1 < y.1) :
    (m.store i v).Pairwise fun x y => x.1 < y.1 := by
  induction m with
  | nil => exact pairwise_consUnlessDefault v (by simp) hm
  | cons c rest ih =>
    obtain ⟨k, w⟩ := c
    obtain ⟨hk, hrest⟩ := List.pairwise_cons.1 hm
    unfold store
    split
    · rename_i hik
      refine pairwise_consUnlessDefault v (fun c hc => ?_) hm
      rcases List.mem_cons.1 hc with rfl | hc
      · exact hik
      · exact Nat.lt_trans hik (hk c hc)
    · split
      · rename_i hik
        exact pairwise_consUnlessDefault v (fun c hc => hik ▸ hk c hc) hrest
      · rename_i h1 h2
        refine List.pairwise_cons.2 ⟨fun c hc => ?_, ih hrest⟩
        rcases mem_store hc with ⟨rfl, _⟩ | hc
        · show k < i; omega
        · exact hk c hc

/-- A store inside the array keeps the canonical form. -/
theorem Memory.wf_store {size : Nat} {m : Memory} (hm : m.wf size) {i : Nat} (hi : i < size) (v : Byte) : (m.store i v).wf size := by
  refine ⟨pairwise_store i v hm.1, fun c hc => ?_⟩
  rcases mem_store hc with ⟨rfl, hv⟩ | hc
  · exact ⟨hv, hi⟩
  · exact hm.2 c hc

/-- The empty array is in canonical form. -/
theorem Memory.wf_nil (size : Nat) : Memory.wf size [] := ⟨List.Pairwise.nil, by simp⟩

/-- A larger array has the canonical form of a smaller one. -/
theorem Memory.wf_mono {m n : Nat} {a : Memory} (h : a.wf m) (hmn : m ≤ n) : a.wf n :=
  ⟨h.1, fun c hc => ⟨(h.2 c hc).1, Nat.lt_of_lt_of_le (h.2 c hc).2 hmn⟩⟩

/-- Past the end of an array every index reads as unlisted. -/
theorem Memory.byteAt_of_size_le {size : Nat} {m : Memory} (hm : m.wf size) {i : Nat} (hi : size ≤ i) : m.byteAt i = unlisted := by
  have h : ∀ c ∈ m, c.1 ≠ i := fun c hc => by have := (hm.2 c hc).2; omega
  clear hm
  induction m with
  | nil => rfl
  | cons c rest ih =>
    obtain ⟨k, w⟩ := c
    simp only [byteAt, if_neg (show ¬ k = i from h _ List.mem_cons_self)]
    exact ih fun c hc => h c (List.mem_cons_of_mem _ hc)

/-- Arrays in canonical form with the same bytes are the same list. -/
theorem Memory.ext_of_byteAt {sizeA sizeB : Nat} {a b : Memory} (ha : a.wf sizeA) (hb : b.wf sizeB)
    (h : ∀ i, a.byteAt i = b.byteAt i) : a = b := by
  induction a generalizing b with
  | nil =>
    cases b with
    | nil => rfl
    | cons c rest =>
      obtain ⟨k, w⟩ := c
      have := h k
      simp only [byteAt, if_true] at this
      exact absurd this.symm (hb.2 (k, w) List.mem_cons_self).1
  | cons c rest ih =>
    obtain ⟨k, w⟩ := c
    cases b with
    | nil =>
      have := h k
      simp only [byteAt, if_true] at this
      exact absurd this (ha.2 (k, w) List.mem_cons_self).1
    | cons d rest' =>
      obtain ⟨k', w'⟩ := d
      obtain ⟨hk, hr⟩ := List.pairwise_cons.1 ha.1
      obtain ⟨hk', hr'⟩ := List.pairwise_cons.1 hb.1
      have hw := (ha.2 (k, w) List.mem_cons_self).1
      have hw' := (hb.2 (k', w') List.mem_cons_self).1
      have hkk : k = k' := by
        rcases Nat.lt_trichotomy k k' with hlt | heq | hgt
        · exfalso
          have h1 := h k
          rw [show byteAt ((k', w') :: rest') k = unlisted from byteAt_of_forall_gt (fun c hc => by
            rcases List.mem_cons.1 hc with rfl | hc
            · exact hlt
            · exact Nat.lt_trans hlt (hk' c hc))] at h1
          simp only [byteAt, if_true] at h1
          exact hw h1
        · exact heq
        · exfalso
          have h1 := h k'
          rw [show byteAt ((k, w) :: rest) k' = unlisted from byteAt_of_forall_gt (fun c hc => by
            rcases List.mem_cons.1 hc with rfl | hc
            · exact hgt
            · exact Nat.lt_trans hgt (hk c hc))] at h1
          simp only [byteAt, if_true] at h1
          exact hw' h1.symm
      subst hkk
      have hww : w = w' := by simpa [byteAt] using h k
      subst hww
      have : rest = rest' := by
        refine ih ⟨hr, fun c hc => ha.2 c (List.mem_cons_of_mem _ hc)⟩
          ⟨hr', fun c hc => hb.2 c (List.mem_cons_of_mem _ hc)⟩ fun i => ?_
        have hi := h i
        by_cases hki : k = i
        · subst hki
          rw [byteAt_of_forall_gt hk, byteAt_of_forall_gt hk']
        · simpa [byteAt, hki] using hi
      rw [this]

/-- Storing what is there changes nothing. -/
theorem Memory.store_byteAt {size : Nat} {m : Memory} (hm : m.wf size) {i : Nat} (hi : i < size) : m.store i (m.byteAt i) = m := by
  refine ext_of_byteAt (wf_store hm hi _) hm fun j => ?_
  by_cases h : i = j
  · subst h; exact byteAt_store_same hm.1 _ _
  · exact byteAt_store_other m _ h

/-- The bytes of an image, by index. -/
theorem Memory.byteAt_ofBytesAt (k : Nat) (image : List Byte) (i : Nat) :
    (ofBytesAt k image).byteAt i = if k ≤ i then image.getD (i - k) unlisted else unlisted := by
  have gt : ∀ (k : Nat) (l : List Byte), ∀ c ∈ ofBytesAt k l, k ≤ c.1 := by
    intro k l
    induction l generalizing k with
    | nil => simp [ofBytesAt]
    | cons v rest ih =>
      intro c hc
      unfold ofBytesAt consUnlessDefault at hc
      split at hc
      · have := ih (k + 1) c hc; omega
      · rcases List.mem_cons.1 hc with rfl | hc
        · exact Nat.le_refl _
        · have := ih (k + 1) c hc; omega
  induction image generalizing k with
  | nil => simp [ofBytesAt, byteAt]
  | cons v rest ih =>
    unfold ofBytesAt
    by_cases hki : k = i
    · subst hki
      rw [byteAt_consUnlessDefault_same v fun c hc => by have := gt (k + 1) rest c hc; omega]
      simp
    · rw [byteAt_consUnlessDefault_other v _ hki, ih]
      by_cases hlt : k ≤ i
      · rw [if_pos hlt, if_pos (by omega), show i - k = (i - (k + 1)) + 1 by omega]
        simp
      · rw [if_neg hlt, if_neg (by omega)]

/-- An image is in canonical form. -/
theorem Memory.wf_ofBytesAt (k : Nat) (image : List Byte) : (ofBytesAt k image).wf (k + image.length) := by
  have key : ∀ (k : Nat) (l : List Byte), (ofBytesAt k l).Pairwise (fun x y => x.1 < y.1) ∧
      ∀ c ∈ ofBytesAt k l, c.2 ≠ unlisted ∧ k ≤ c.1 ∧ c.1 < k + l.length := by
    intro k l
    induction l generalizing k with
    | nil => simp [ofBytesAt]
    | cons v rest ih =>
      obtain ⟨hp, hc⟩ := ih (k + 1)
      constructor
      · exact pairwise_consUnlessDefault v (fun c h => by have := (hc c h).2.1; omega) hp
      · intro c h
        unfold ofBytesAt consUnlessDefault at h
        simp only [List.length_cons]
        split at h
        · have := hc c h; exact ⟨this.1, by omega, by omega⟩
        · rename_i hv
          rcases List.mem_cons.1 h with rfl | h
          · exact ⟨hv, Nat.le_refl _, by show k < _; omega⟩
          · have := hc c h; exact ⟨this.1, by omega, by omega⟩
  exact ⟨(key k image).1, fun c h => ⟨((key k image).2 c h).1, ((key k image).2 c h).2.2⟩⟩

end Sys2Proof.Machine
end

