-- ==== Sys2Proof/Laws/State.lean ====
section
/-! SUPPORT. One lemma per field per update of the state, each true by `rfl`, so that no proof unfolds a record update. An
update that leaves a whole component alone has one lemma for the component. -/

namespace Sys2Proof.Machine


/-! ### `emit` -/

@[simp] theorem emit_config (ds : List Diag) (s : State) : (emit ds s).config = s.config := rfl
@[simp] theorem emit_cpu (ds : List Diag) (s : State) : (emit ds s).cpu = s.cpu := rfl
@[simp] theorem emit_cart (ds : List Diag) (s : State) : (emit ds s).cart = s.cart := rfl
@[simp] theorem emit_mmu (ds : List Diag) (s : State) : (emit ds s).mmu = s.mmu := rfl
@[simp] theorem emit_ppu (ds : List Diag) (s : State) : (emit ds s).ppu = s.ppu := rfl
@[simp] theorem emit_timer (ds : List Diag) (s : State) : (emit ds s).timer = s.timer := rfl
@[simp] theorem emit_pressedMask (ds : List Diag) (s : State) : (emit ds s).pressedMask = s.pressedMask := rfl
@[simp] theorem emit_diag (ds : List Diag) (s : State) : (emit ds s).diag = s.diag ++ ds := rfl
@[simp] theorem emit_stage (ds : List Diag) (s : State) : (emit ds s).stage = s.stage := rfl

/-! ### `setSlot` -/

@[simp] theorem setSlot_config (k : Nat) (v : Byte) (s : State) : (setSlot k v s).config = s.config := rfl
@[simp] theorem setSlot_cpu (k : Nat) (v : Byte) (s : State) : (setSlot k v s).cpu = s.cpu := rfl
@[simp] theorem setSlot_cart (k : Nat) (v : Byte) (s : State) : (setSlot k v s).cart = s.cart := rfl
@[simp] theorem setSlot_ppu (k : Nat) (v : Byte) (s : State) : (setSlot k v s).ppu = s.ppu := rfl
@[simp] theorem setSlot_timer (k : Nat) (v : Byte) (s : State) : (setSlot k v s).timer = s.timer := rfl
@[simp] theorem setSlot_pressedMask (k : Nat) (v : Byte) (s : State) : (setSlot k v s).pressedMask = s.pressedMask := rfl
@[simp] theorem setSlot_diag (k : Nat) (v : Byte) (s : State) : (setSlot k v s).diag = s.diag := rfl
@[simp] theorem setSlot_stage (k : Nat) (v : Byte) (s : State) : (setSlot k v s).stage = s.stage := rfl
@[simp] theorem setSlot_mmu_eram (k : Nat) (v : Byte) (s : State) : (setSlot k v s).mmu.eram = s.mmu.eram := rfl
@[simp] theorem setSlot_mmu_wram (k : Nat) (v : Byte) (s : State) : (setSlot k v s).mmu.wram = s.mmu.wram := rfl
@[simp] theorem setSlot_mmu_vram (k : Nat) (v : Byte) (s : State) : (setSlot k v s).mmu.vram = s.mmu.vram := rfl
@[simp] theorem setSlot_mmu_oam (k : Nat) (v : Byte) (s : State) : (setSlot k v s).mmu.oam = s.mmu.oam := rfl
@[simp] theorem setSlot_mmu_io (k : Nat) (v : Byte) (s : State) : (setSlot k v s).mmu.io = s.mmu.io.store k v := rfl
@[simp] theorem setSlot_mmu_hram (k : Nat) (v : Byte) (s : State) : (setSlot k v s).mmu.hram = s.mmu.hram := rfl
@[simp] theorem setSlot_mmu_ie (k : Nat) (v : Byte) (s : State) : (setSlot k v s).mmu.ie = s.mmu.ie := rfl
@[simp] theorem setSlot_mmu_romBankLow (k : Nat) (v : Byte) (s : State) : (setSlot k v s).mmu.romBankLow = s.mmu.romBankLow := rfl
@[simp] theorem setSlot_mmu_romBankHigh (k : Nat) (v : Byte) (s : State) : (setSlot k v s).mmu.romBankHigh = s.mmu.romBankHigh := rfl
@[simp] theorem setSlot_mmu_bankingMode (k : Nat) (v : Byte) (s : State) : (setSlot k v s).mmu.bankingMode = s.mmu.bankingMode := rfl
@[simp] theorem setSlot_mmu_ramEnabled (k : Nat) (v : Byte) (s : State) : (setSlot k v s).mmu.ramEnabled = s.mmu.ramEnabled := rfl
@[simp] theorem setSlot_mmu_vramBank (k : Nat) (v : Byte) (s : State) : (setSlot k v s).mmu.vramBank = s.mmu.vramBank := rfl
@[simp] theorem setSlot_mmu_wramBank (k : Nat) (v : Byte) (s : State) : (setSlot k v s).mmu.wramBank = s.mmu.wramBank := rfl

/-! ### `postInterrupt` -/

@[simp] theorem postInterrupt_config (bit : Nat) (s : State) : (postInterrupt bit s).config = s.config := rfl
@[simp] theorem postInterrupt_cpu (bit : Nat) (s : State) : (postInterrupt bit s).cpu = s.cpu := rfl
@[simp] theorem postInterrupt_cart (bit : Nat) (s : State) : (postInterrupt bit s).cart = s.cart := rfl
@[simp] theorem postInterrupt_ppu (bit : Nat) (s : State) : (postInterrupt bit s).ppu = s.ppu := rfl
@[simp] theorem postInterrupt_timer (bit : Nat) (s : State) : (postInterrupt bit s).timer = s.timer := rfl
@[simp] theorem postInterrupt_pressedMask (bit : Nat) (s : State) : (postInterrupt bit s).pressedMask = s.pressedMask := rfl
@[simp] theorem postInterrupt_diag (bit : Nat) (s : State) : (postInterrupt bit s).diag = s.diag := rfl
@[simp] theorem postInterrupt_stage (bit : Nat) (s : State) : (postInterrupt bit s).stage = s.stage := rfl
@[simp] theorem postInterrupt_mmu_eram (bit : Nat) (s : State) : (postInterrupt bit s).mmu.eram = s.mmu.eram := rfl
@[simp] theorem postInterrupt_mmu_wram (bit : Nat) (s : State) : (postInterrupt bit s).mmu.wram = s.mmu.wram := rfl
@[simp] theorem postInterrupt_mmu_vram (bit : Nat) (s : State) : (postInterrupt bit s).mmu.vram = s.mmu.vram := rfl
@[simp] theorem postInterrupt_mmu_oam (bit : Nat) (s : State) : (postInterrupt bit s).mmu.oam = s.mmu.oam := rfl
@[simp] theorem postInterrupt_mmu_io (bit : Nat) (s : State) : (postInterrupt bit s).mmu.io = s.mmu.io.store slotIf (slot s slotIf ||| (1#8 <<< bit)) := rfl
@[simp] theorem postInterrupt_mmu_hram (bit : Nat) (s : State) : (postInterrupt bit s).mmu.hram = s.mmu.hram := rfl
@[simp] theorem postInterrupt_mmu_ie (bit : Nat) (s : State) : (postInterrupt bit s).mmu.ie = s.mmu.ie := rfl
@[simp] theorem postInterrupt_mmu_romBankLow (bit : Nat) (s : State) : (postInterrupt bit s).mmu.romBankLow = s.mmu.romBankLow := rfl
@[simp] theorem postInterrupt_mmu_romBankHigh (bit : Nat) (s : State) : (postInterrupt bit s).mmu.romBankHigh = s.mmu.romBankHigh := rfl
@[simp] theorem postInterrupt_mmu_bankingMode (bit : Nat) (s : State) : (postInterrupt bit s).mmu.bankingMode = s.mmu.bankingMode := rfl
@[simp] theorem postInterrupt_mmu_ramEnabled (bit : Nat) (s : State) : (postInterrupt bit s).mmu.ramEnabled = s.mmu.ramEnabled := rfl
@[simp] theorem postInterrupt_mmu_vramBank (bit : Nat) (s : State) : (postInterrupt bit s).mmu.vramBank = s.mmu.vramBank := rfl
@[simp] theorem postInterrupt_mmu_wramBank (bit : Nat) (s : State) : (postInterrupt bit s).mmu.wramBank = s.mmu.wramBank := rfl

/-! ### `setOam` -/

@[simp] theorem setOam_config (i : Nat) (v : Byte) (s : State) : (setOam i v s).config = s.config := rfl
@[simp] theorem setOam_cpu (i : Nat) (v : Byte) (s : State) : (setOam i v s).cpu = s.cpu := rfl
@[simp] theorem setOam_cart (i : Nat) (v : Byte) (s : State) : (setOam i v s).cart = s.cart := rfl
@[simp] theorem setOam_ppu (i : Nat) (v : Byte) (s : State) : (setOam i v s).ppu = s.ppu := rfl
@[simp] theorem setOam_timer (i : Nat) (v : Byte) (s : State) : (setOam i v s).timer = s.timer := rfl
@[simp] theorem setOam_pressedMask (i : Nat) (v : Byte) (s : State) : (setOam i v s).pressedMask = s.pressedMask := rfl
@[simp] theorem setOam_diag (i : Nat) (v : Byte) (s : State) : (setOam i v s).diag = s.diag := rfl
@[simp] theorem setOam_stage (i : Nat) (v : Byte) (s : State) : (setOam i v s).stage = s.stage := rfl
@[simp] theorem setOam_mmu_eram (i : Nat) (v : Byte) (s : State) : (setOam i v s).mmu.eram = s.mmu.eram := rfl
@[simp] theorem setOam_mmu_wram (i : Nat) (v : Byte) (s : State) : (setOam i v s).mmu.wram = s.mmu.wram := rfl
@[simp] theorem setOam_mmu_vram (i : Nat) (v : Byte) (s : State) : (setOam i v s).mmu.vram = s.mmu.vram := rfl
@[simp] theorem setOam_mmu_oam (i : Nat) (v : Byte) (s : State) : (setOam i v s).mmu.oam = s.mmu.oam.store i v := rfl
@[simp] theorem setOam_mmu_io (i : Nat) (v : Byte) (s : State) : (setOam i v s).mmu.io = s.mmu.io := rfl
@[simp] theorem setOam_mmu_hram (i : Nat) (v : Byte) (s : State) : (setOam i v s).mmu.hram = s.mmu.hram := rfl
@[simp] theorem setOam_mmu_ie (i : Nat) (v : Byte) (s : State) : (setOam i v s).mmu.ie = s.mmu.ie := rfl
@[simp] theorem setOam_mmu_romBankLow (i : Nat) (v : Byte) (s : State) : (setOam i v s).mmu.romBankLow = s.mmu.romBankLow := rfl
@[simp] theorem setOam_mmu_romBankHigh (i : Nat) (v : Byte) (s : State) : (setOam i v s).mmu.romBankHigh = s.mmu.romBankHigh := rfl
@[simp] theorem setOam_mmu_bankingMode (i : Nat) (v : Byte) (s : State) : (setOam i v s).mmu.bankingMode = s.mmu.bankingMode := rfl
@[simp] theorem setOam_mmu_ramEnabled (i : Nat) (v : Byte) (s : State) : (setOam i v s).mmu.ramEnabled = s.mmu.ramEnabled := rfl
@[simp] theorem setOam_mmu_vramBank (i : Nat) (v : Byte) (s : State) : (setOam i v s).mmu.vramBank = s.mmu.vramBank := rfl
@[simp] theorem setOam_mmu_wramBank (i : Nat) (v : Byte) (s : State) : (setOam i v s).mmu.wramBank = s.mmu.wramBank := rfl

/-! ### `setPc` -/

@[simp] theorem setPc_config (v : Word) (s : State) : (setPc v s).config = s.config := rfl
@[simp] theorem setPc_cart (v : Word) (s : State) : (setPc v s).cart = s.cart := rfl
@[simp] theorem setPc_mmu (v : Word) (s : State) : (setPc v s).mmu = s.mmu := rfl
@[simp] theorem setPc_ppu (v : Word) (s : State) : (setPc v s).ppu = s.ppu := rfl
@[simp] theorem setPc_timer (v : Word) (s : State) : (setPc v s).timer = s.timer := rfl
@[simp] theorem setPc_pressedMask (v : Word) (s : State) : (setPc v s).pressedMask = s.pressedMask := rfl
@[simp] theorem setPc_diag (v : Word) (s : State) : (setPc v s).diag = s.diag := rfl
@[simp] theorem setPc_stage (v : Word) (s : State) : (setPc v s).stage = s.stage := rfl
@[simp] theorem setPc_cpu_a (v : Word) (s : State) : (setPc v s).cpu.a = s.cpu.a := rfl
@[simp] theorem setPc_cpu_f (v : Word) (s : State) : (setPc v s).cpu.f = s.cpu.f := rfl
@[simp] theorem setPc_cpu_b (v : Word) (s : State) : (setPc v s).cpu.b = s.cpu.b := rfl
@[simp] theorem setPc_cpu_c (v : Word) (s : State) : (setPc v s).cpu.c = s.cpu.c := rfl
@[simp] theorem setPc_cpu_d (v : Word) (s : State) : (setPc v s).cpu.d = s.cpu.d := rfl
@[simp] theorem setPc_cpu_e (v : Word) (s : State) : (setPc v s).cpu.e = s.cpu.e := rfl
@[simp] theorem setPc_cpu_h (v : Word) (s : State) : (setPc v s).cpu.h = s.cpu.h := rfl
@[simp] theorem setPc_cpu_l (v : Word) (s : State) : (setPc v s).cpu.l = s.cpu.l := rfl
@[simp] theorem setPc_cpu_sp (v : Word) (s : State) : (setPc v s).cpu.sp = s.cpu.sp := rfl
@[simp] theorem setPc_cpu_pc (v : Word) (s : State) : (setPc v s).cpu.pc = v := rfl
@[simp] theorem setPc_cpu_ime (v : Word) (s : State) : (setPc v s).cpu.ime = s.cpu.ime := rfl
@[simp] theorem setPc_cpu_imeScheduled (v : Word) (s : State) : (setPc v s).cpu.imeScheduled = s.cpu.imeScheduled := rfl
@[simp] theorem setPc_cpu_halted (v : Word) (s : State) : (setPc v s).cpu.halted = s.cpu.halted := rfl

/-! ### `setSp` -/

@[simp] theorem setSp_config (v : Word) (s : State) : (setSp v s).config = s.config := rfl
@[simp] theorem setSp_cart (v : Word) (s : State) : (setSp v s).cart = s.cart := rfl
@[simp] theorem setSp_mmu (v : Word) (s : State) : (setSp v s).mmu = s.mmu := rfl
@[simp] theorem setSp_ppu (v : Word) (s : State) : (setSp v s).ppu = s.ppu := rfl
@[simp] theorem setSp_timer (v : Word) (s : State) : (setSp v s).timer = s.timer := rfl
@[simp] theorem setSp_pressedMask (v : Word) (s : State) : (setSp v s).pressedMask = s.pressedMask := rfl
@[simp] theorem setSp_diag (v : Word) (s : State) : (setSp v s).diag = s.diag := rfl
@[simp] theorem setSp_stage (v : Word) (s : State) : (setSp v s).stage = s.stage := rfl
@[simp] theorem setSp_cpu_a (v : Word) (s : State) : (setSp v s).cpu.a = s.cpu.a := rfl
@[simp] theorem setSp_cpu_f (v : Word) (s : State) : (setSp v s).cpu.f = s.cpu.f := rfl
@[simp] theorem setSp_cpu_b (v : Word) (s : State) : (setSp v s).cpu.b = s.cpu.b := rfl
@[simp] theorem setSp_cpu_c (v : Word) (s : State) : (setSp v s).cpu.c = s.cpu.c := rfl
@[simp] theorem setSp_cpu_d (v : Word) (s : State) : (setSp v s).cpu.d = s.cpu.d := rfl
@[simp] theorem setSp_cpu_e (v : Word) (s : State) : (setSp v s).cpu.e = s.cpu.e := rfl
@[simp] theorem setSp_cpu_h (v : Word) (s : State) : (setSp v s).cpu.h = s.cpu.h := rfl
@[simp] theorem setSp_cpu_l (v : Word) (s : State) : (setSp v s).cpu.l = s.cpu.l := rfl
@[simp] theorem setSp_cpu_sp (v : Word) (s : State) : (setSp v s).cpu.sp = v := rfl
@[simp] theorem setSp_cpu_pc (v : Word) (s : State) : (setSp v s).cpu.pc = s.cpu.pc := rfl
@[simp] theorem setSp_cpu_ime (v : Word) (s : State) : (setSp v s).cpu.ime = s.cpu.ime := rfl
@[simp] theorem setSp_cpu_imeScheduled (v : Word) (s : State) : (setSp v s).cpu.imeScheduled = s.cpu.imeScheduled := rfl
@[simp] theorem setSp_cpu_halted (v : Word) (s : State) : (setSp v s).cpu.halted = s.cpu.halted := rfl

/-! ### `setA` -/

@[simp] theorem setA_config (v : Byte) (s : State) : (setA v s).config = s.config := rfl
@[simp] theorem setA_cart (v : Byte) (s : State) : (setA v s).cart = s.cart := rfl
@[simp] theorem setA_mmu (v : Byte) (s : State) : (setA v s).mmu = s.mmu := rfl
@[simp] theorem setA_ppu (v : Byte) (s : State) : (setA v s).ppu = s.ppu := rfl
@[simp] theorem setA_timer (v : Byte) (s : State) : (setA v s).timer = s.timer := rfl
@[simp] theorem setA_pressedMask (v : Byte) (s : State) : (setA v s).pressedMask = s.pressedMask := rfl
@[simp] theorem setA_diag (v : Byte) (s : State) : (setA v s).diag = s.diag := rfl
@[simp] theorem setA_stage (v : Byte) (s : State) : (setA v s).stage = s.stage := rfl
@[simp] theorem setA_cpu_a (v : Byte) (s : State) : (setA v s).cpu.a = v := rfl
@[simp] theorem setA_cpu_f (v : Byte) (s : State) : (setA v s).cpu.f = s.cpu.f := rfl
@[simp] theorem setA_cpu_b (v : Byte) (s : State) : (setA v s).cpu.b = s.cpu.b := rfl
@[simp] theorem setA_cpu_c (v : Byte) (s : State) : (setA v s).cpu.c = s.cpu.c := rfl
@[simp] theorem setA_cpu_d (v : Byte) (s : State) : (setA v s).cpu.d = s.cpu.d := rfl
@[simp] theorem setA_cpu_e (v : Byte) (s : State) : (setA v s).cpu.e = s.cpu.e := rfl
@[simp] theorem setA_cpu_h (v : Byte) (s : State) : (setA v s).cpu.h = s.cpu.h := rfl
@[simp] theorem setA_cpu_l (v : Byte) (s : State) : (setA v s).cpu.l = s.cpu.l := rfl
@[simp] theorem setA_cpu_sp (v : Byte) (s : State) : (setA v s).cpu.sp = s.cpu.sp := rfl
@[simp] theorem setA_cpu_pc (v : Byte) (s : State) : (setA v s).cpu.pc = s.cpu.pc := rfl
@[simp] theorem setA_cpu_ime (v : Byte) (s : State) : (setA v s).cpu.ime = s.cpu.ime := rfl
@[simp] theorem setA_cpu_imeScheduled (v : Byte) (s : State) : (setA v s).cpu.imeScheduled = s.cpu.imeScheduled := rfl
@[simp] theorem setA_cpu_halted (v : Byte) (s : State) : (setA v s).cpu.halted = s.cpu.halted := rfl

/-! ### `setBc` -/

@[simp] theorem setBc_config (v : Word) (s : State) : (setBc v s).config = s.config := rfl
@[simp] theorem setBc_cart (v : Word) (s : State) : (setBc v s).cart = s.cart := rfl
@[simp] theorem setBc_mmu (v : Word) (s : State) : (setBc v s).mmu = s.mmu := rfl
@[simp] theorem setBc_ppu (v : Word) (s : State) : (setBc v s).ppu = s.ppu := rfl
@[simp] theorem setBc_timer (v : Word) (s : State) : (setBc v s).timer = s.timer := rfl
@[simp] theorem setBc_pressedMask (v : Word) (s : State) : (setBc v s).pressedMask = s.pressedMask := rfl
@[simp] theorem setBc_diag (v : Word) (s : State) : (setBc v s).diag = s.diag := rfl
@[simp] theorem setBc_stage (v : Word) (s : State) : (setBc v s).stage = s.stage := rfl
@[simp] theorem setBc_cpu_a (v : Word) (s : State) : (setBc v s).cpu.a = s.cpu.a := rfl
@[simp] theorem setBc_cpu_f (v : Word) (s : State) : (setBc v s).cpu.f = s.cpu.f := rfl
@[simp] theorem setBc_cpu_b (v : Word) (s : State) : (setBc v s).cpu.b = hiByte v := rfl
@[simp] theorem setBc_cpu_c (v : Word) (s : State) : (setBc v s).cpu.c = loByte v := rfl
@[simp] theorem setBc_cpu_d (v : Word) (s : State) : (setBc v s).cpu.d = s.cpu.d := rfl
@[simp] theorem setBc_cpu_e (v : Word) (s : State) : (setBc v s).cpu.e = s.cpu.e := rfl
@[simp] theorem setBc_cpu_h (v : Word) (s : State) : (setBc v s).cpu.h = s.cpu.h := rfl
@[simp] theorem setBc_cpu_l (v : Word) (s : State) : (setBc v s).cpu.l = s.cpu.l := rfl
@[simp] theorem setBc_cpu_sp (v : Word) (s : State) : (setBc v s).cpu.sp = s.cpu.sp := rfl
@[simp] theorem setBc_cpu_pc (v : Word) (s : State) : (setBc v s).cpu.pc = s.cpu.pc := rfl
@[simp] theorem setBc_cpu_ime (v : Word) (s : State) : (setBc v s).cpu.ime = s.cpu.ime := rfl
@[simp] theorem setBc_cpu_imeScheduled (v : Word) (s : State) : (setBc v s).cpu.imeScheduled = s.cpu.imeScheduled := rfl
@[simp] theorem setBc_cpu_halted (v : Word) (s : State) : (setBc v s).cpu.halted = s.cpu.halted := rfl

/-! ### `setDe` -/

@[simp] theorem setDe_config (v : Word) (s : State) : (setDe v s).config = s.config := rfl
@[simp] theorem setDe_cart (v : Word) (s : State) : (setDe v s).cart = s.cart := rfl
@[simp] theorem setDe_mmu (v : Word) (s : State) : (setDe v s).mmu = s.mmu := rfl
@[simp] theorem setDe_ppu (v : Word) (s : State) : (setDe v s).ppu = s.ppu := rfl
@[simp] theorem setDe_timer (v : Word) (s : State) : (setDe v s).timer = s.timer := rfl
@[simp] theorem setDe_pressedMask (v : Word) (s : State) : (setDe v s).pressedMask = s.pressedMask := rfl
@[simp] theorem setDe_diag (v : Word) (s : State) : (setDe v s).diag = s.diag := rfl
@[simp] theorem setDe_stage (v : Word) (s : State) : (setDe v s).stage = s.stage := rfl
@[simp] theorem setDe_cpu_a (v : Word) (s : State) : (setDe v s).cpu.a = s.cpu.a := rfl
@[simp] theorem setDe_cpu_f (v : Word) (s : State) : (setDe v s).cpu.f = s.cpu.f := rfl
@[simp] theorem setDe_cpu_b (v : Word) (s : State) : (setDe v s).cpu.b = s.cpu.b := rfl
@[simp] theorem setDe_cpu_c (v : Word) (s : State) : (setDe v s).cpu.c = s.cpu.c := rfl
@[simp] theorem setDe_cpu_d (v : Word) (s : State) : (setDe v s).cpu.d = hiByte v := rfl
@[simp] theorem setDe_cpu_e (v : Word) (s : State) : (setDe v s).cpu.e = loByte v := rfl
@[simp] theorem setDe_cpu_h (v : Word) (s : State) : (setDe v s).cpu.h = s.cpu.h := rfl
@[simp] theorem setDe_cpu_l (v : Word) (s : State) : (setDe v s).cpu.l = s.cpu.l := rfl
@[simp] theorem setDe_cpu_sp (v : Word) (s : State) : (setDe v s).cpu.sp = s.cpu.sp := rfl
@[simp] theorem setDe_cpu_pc (v : Word) (s : State) : (setDe v s).cpu.pc = s.cpu.pc := rfl
@[simp] theorem setDe_cpu_ime (v : Word) (s : State) : (setDe v s).cpu.ime = s.cpu.ime := rfl
@[simp] theorem setDe_cpu_imeScheduled (v : Word) (s : State) : (setDe v s).cpu.imeScheduled = s.cpu.imeScheduled := rfl
@[simp] theorem setDe_cpu_halted (v : Word) (s : State) : (setDe v s).cpu.halted = s.cpu.halted := rfl

/-! ### `setHl` -/

@[simp] theorem setHl_config (v : Word) (s : State) : (setHl v s).config = s.config := rfl
@[simp] theorem setHl_cart (v : Word) (s : State) : (setHl v s).cart = s.cart := rfl
@[simp] theorem setHl_mmu (v : Word) (s : State) : (setHl v s).mmu = s.mmu := rfl
@[simp] theorem setHl_ppu (v : Word) (s : State) : (setHl v s).ppu = s.ppu := rfl
@[simp] theorem setHl_timer (v : Word) (s : State) : (setHl v s).timer = s.timer := rfl
@[simp] theorem setHl_pressedMask (v : Word) (s : State) : (setHl v s).pressedMask = s.pressedMask := rfl
@[simp] theorem setHl_diag (v : Word) (s : State) : (setHl v s).diag = s.diag := rfl
@[simp] theorem setHl_stage (v : Word) (s : State) : (setHl v s).stage = s.stage := rfl
@[simp] theorem setHl_cpu_a (v : Word) (s : State) : (setHl v s).cpu.a = s.cpu.a := rfl
@[simp] theorem setHl_cpu_f (v : Word) (s : State) : (setHl v s).cpu.f = s.cpu.f := rfl
@[simp] theorem setHl_cpu_b (v : Word) (s : State) : (setHl v s).cpu.b = s.cpu.b := rfl
@[simp] theorem setHl_cpu_c (v : Word) (s : State) : (setHl v s).cpu.c = s.cpu.c := rfl
@[simp] theorem setHl_cpu_d (v : Word) (s : State) : (setHl v s).cpu.d = s.cpu.d := rfl
@[simp] theorem setHl_cpu_e (v : Word) (s : State) : (setHl v s).cpu.e = s.cpu.e := rfl
@[simp] theorem setHl_cpu_h (v : Word) (s : State) : (setHl v s).cpu.h = hiByte v := rfl
@[simp] theorem setHl_cpu_l (v : Word) (s : State) : (setHl v s).cpu.l = loByte v := rfl
@[simp] theorem setHl_cpu_sp (v : Word) (s : State) : (setHl v s).cpu.sp = s.cpu.sp := rfl
@[simp] theorem setHl_cpu_pc (v : Word) (s : State) : (setHl v s).cpu.pc = s.cpu.pc := rfl
@[simp] theorem setHl_cpu_ime (v : Word) (s : State) : (setHl v s).cpu.ime = s.cpu.ime := rfl
@[simp] theorem setHl_cpu_imeScheduled (v : Word) (s : State) : (setHl v s).cpu.imeScheduled = s.cpu.imeScheduled := rfl
@[simp] theorem setHl_cpu_halted (v : Word) (s : State) : (setHl v s).cpu.halted = s.cpu.halted := rfl

/-! ### `setAf` -/

@[simp] theorem setAf_config (v : Word) (s : State) : (setAf v s).config = s.config := rfl
@[simp] theorem setAf_cart (v : Word) (s : State) : (setAf v s).cart = s.cart := rfl
@[simp] theorem setAf_mmu (v : Word) (s : State) : (setAf v s).mmu = s.mmu := rfl
@[simp] theorem setAf_ppu (v : Word) (s : State) : (setAf v s).ppu = s.ppu := rfl
@[simp] theorem setAf_timer (v : Word) (s : State) : (setAf v s).timer = s.timer := rfl
@[simp] theorem setAf_pressedMask (v : Word) (s : State) : (setAf v s).pressedMask = s.pressedMask := rfl
@[simp] theorem setAf_diag (v : Word) (s : State) : (setAf v s).diag = s.diag := rfl
@[simp] theorem setAf_stage (v : Word) (s : State) : (setAf v s).stage = s.stage := rfl
@[simp] theorem setAf_cpu_a (v : Word) (s : State) : (setAf v s).cpu.a = hiByte v := rfl
@[simp] theorem setAf_cpu_f (v : Word) (s : State) : (setAf v s).cpu.f = loByte v &&& 0xF0 := rfl
@[simp] theorem setAf_cpu_b (v : Word) (s : State) : (setAf v s).cpu.b = s.cpu.b := rfl
@[simp] theorem setAf_cpu_c (v : Word) (s : State) : (setAf v s).cpu.c = s.cpu.c := rfl
@[simp] theorem setAf_cpu_d (v : Word) (s : State) : (setAf v s).cpu.d = s.cpu.d := rfl
@[simp] theorem setAf_cpu_e (v : Word) (s : State) : (setAf v s).cpu.e = s.cpu.e := rfl
@[simp] theorem setAf_cpu_h (v : Word) (s : State) : (setAf v s).cpu.h = s.cpu.h := rfl
@[simp] theorem setAf_cpu_l (v : Word) (s : State) : (setAf v s).cpu.l = s.cpu.l := rfl
@[simp] theorem setAf_cpu_sp (v : Word) (s : State) : (setAf v s).cpu.sp = s.cpu.sp := rfl
@[simp] theorem setAf_cpu_pc (v : Word) (s : State) : (setAf v s).cpu.pc = s.cpu.pc := rfl
@[simp] theorem setAf_cpu_ime (v : Word) (s : State) : (setAf v s).cpu.ime = s.cpu.ime := rfl
@[simp] theorem setAf_cpu_imeScheduled (v : Word) (s : State) : (setAf v s).cpu.imeScheduled = s.cpu.imeScheduled := rfl
@[simp] theorem setAf_cpu_halted (v : Word) (s : State) : (setAf v s).cpu.halted = s.cpu.halted := rfl

/-! ### `setFlags` -/

@[simp] theorem setFlags_config (z n h c : Option Bool) (s : State) : (setFlags z n h c s).config = s.config := rfl
@[simp] theorem setFlags_cart (z n h c : Option Bool) (s : State) : (setFlags z n h c s).cart = s.cart := rfl
@[simp] theorem setFlags_mmu (z n h c : Option Bool) (s : State) : (setFlags z n h c s).mmu = s.mmu := rfl
@[simp] theorem setFlags_ppu (z n h c : Option Bool) (s : State) : (setFlags z n h c s).ppu = s.ppu := rfl
@[simp] theorem setFlags_timer (z n h c : Option Bool) (s : State) : (setFlags z n h c s).timer = s.timer := rfl
@[simp] theorem setFlags_pressedMask (z n h c : Option Bool) (s : State) : (setFlags z n h c s).pressedMask = s.pressedMask := rfl
@[simp] theorem setFlags_diag (z n h c : Option Bool) (s : State) : (setFlags z n h c s).diag = s.diag := rfl
@[simp] theorem setFlags_stage (z n h c : Option Bool) (s : State) : (setFlags z n h c s).stage = s.stage := rfl
@[simp] theorem setFlags_cpu_a (z n h c : Option Bool) (s : State) : (setFlags z n h c s).cpu.a = s.cpu.a := rfl
@[simp] theorem setFlags_cpu_f (z n h c : Option Bool) (s : State) : (setFlags z n h c s).cpu.f = flagByte (z.getD (flagZ s)) (n.getD (flagN s)) (h.getD (flagH s)) (c.getD (flagC s)) := rfl
@[simp] theorem setFlags_cpu_b (z n h c : Option Bool) (s : State) : (setFlags z n h c s).cpu.b = s.cpu.b := rfl
@[simp] theorem setFlags_cpu_c (z n h c : Option Bool) (s : State) : (setFlags z n h c s).cpu.c = s.cpu.c := rfl
@[simp] theorem setFlags_cpu_d (z n h c : Option Bool) (s : State) : (setFlags z n h c s).cpu.d = s.cpu.d := rfl
@[simp] theorem setFlags_cpu_e (z n h c : Option Bool) (s : State) : (setFlags z n h c s).cpu.e = s.cpu.e := rfl
@[simp] theorem setFlags_cpu_h (z n h c : Option Bool) (s : State) : (setFlags z n h c s).cpu.h = s.cpu.h := rfl
@[simp] theorem setFlags_cpu_l (z n h c : Option Bool) (s : State) : (setFlags z n h c s).cpu.l = s.cpu.l := rfl
@[simp] theorem setFlags_cpu_sp (z n h c : Option Bool) (s : State) : (setFlags z n h c s).cpu.sp = s.cpu.sp := rfl
@[simp] theorem setFlags_cpu_pc (z n h c : Option Bool) (s : State) : (setFlags z n h c s).cpu.pc = s.cpu.pc := rfl
@[simp] theorem setFlags_cpu_ime (z n h c : Option Bool) (s : State) : (setFlags z n h c s).cpu.ime = s.cpu.ime := rfl
@[simp] theorem setFlags_cpu_imeScheduled (z n h c : Option Bool) (s : State) : (setFlags z n h c s).cpu.imeScheduled = s.cpu.imeScheduled := rfl
@[simp] theorem setFlags_cpu_halted (z n h c : Option Bool) (s : State) : (setFlags z n h c s).cpu.halted = s.cpu.halted := rfl

/-! ### `setIme` -/

@[simp] theorem setIme_config (i j : Bool) (s : State) : (setIme i j s).config = s.config := rfl
@[simp] theorem setIme_cart (i j : Bool) (s : State) : (setIme i j s).cart = s.cart := rfl
@[simp] theorem setIme_mmu (i j : Bool) (s : State) : (setIme i j s).mmu = s.mmu := rfl
@[simp] theorem setIme_ppu (i j : Bool) (s : State) : (setIme i j s).ppu = s.ppu := rfl
@[simp] theorem setIme_timer (i j : Bool) (s : State) : (setIme i j s).timer = s.timer := rfl
@[simp] theorem setIme_pressedMask (i j : Bool) (s : State) : (setIme i j s).pressedMask = s.pressedMask := rfl
@[simp] theorem setIme_diag (i j : Bool) (s : State) : (setIme i j s).diag = s.diag := rfl
@[simp] theorem setIme_stage (i j : Bool) (s : State) : (setIme i j s).stage = s.stage := rfl
@[simp] theorem setIme_cpu_a (i j : Bool) (s : State) : (setIme i j s).cpu.a = s.cpu.a := rfl
@[simp] theorem setIme_cpu_f (i j : Bool) (s : State) : (setIme i j s).cpu.f = s.cpu.f := rfl
@[simp] theorem setIme_cpu_b (i j : Bool) (s : State) : (setIme i j s).cpu.b = s.cpu.b := rfl
@[simp] theorem setIme_cpu_c (i j : Bool) (s : State) : (setIme i j s).cpu.c = s.cpu.c := rfl
@[simp] theorem setIme_cpu_d (i j : Bool) (s : State) : (setIme i j s).cpu.d = s.cpu.d := rfl
@[simp] theorem setIme_cpu_e (i j : Bool) (s : State) : (setIme i j s).cpu.e = s.cpu.e := rfl
@[simp] theorem setIme_cpu_h (i j : Bool) (s : State) : (setIme i j s).cpu.h = s.cpu.h := rfl
@[simp] theorem setIme_cpu_l (i j : Bool) (s : State) : (setIme i j s).cpu.l = s.cpu.l := rfl
@[simp] theorem setIme_cpu_sp (i j : Bool) (s : State) : (setIme i j s).cpu.sp = s.cpu.sp := rfl
@[simp] theorem setIme_cpu_pc (i j : Bool) (s : State) : (setIme i j s).cpu.pc = s.cpu.pc := rfl
@[simp] theorem setIme_cpu_ime (i j : Bool) (s : State) : (setIme i j s).cpu.ime = i := rfl
@[simp] theorem setIme_cpu_imeScheduled (i j : Bool) (s : State) : (setIme i j s).cpu.imeScheduled = j := rfl
@[simp] theorem setIme_cpu_halted (i j : Bool) (s : State) : (setIme i j s).cpu.halted = s.cpu.halted := rfl

/-! ### `wake` -/

@[simp] theorem wake_config (s : State) : (wake s).config = s.config := rfl
@[simp] theorem wake_cart (s : State) : (wake s).cart = s.cart := rfl
@[simp] theorem wake_mmu (s : State) : (wake s).mmu = s.mmu := rfl
@[simp] theorem wake_ppu (s : State) : (wake s).ppu = s.ppu := rfl
@[simp] theorem wake_timer (s : State) : (wake s).timer = s.timer := rfl
@[simp] theorem wake_pressedMask (s : State) : (wake s).pressedMask = s.pressedMask := rfl
@[simp] theorem wake_diag (s : State) : (wake s).diag = s.diag := rfl
@[simp] theorem wake_stage (s : State) : (wake s).stage = s.stage := rfl
@[simp] theorem wake_cpu_a (s : State) : (wake s).cpu.a = s.cpu.a := rfl
@[simp] theorem wake_cpu_f (s : State) : (wake s).cpu.f = s.cpu.f := rfl
@[simp] theorem wake_cpu_b (s : State) : (wake s).cpu.b = s.cpu.b := rfl
@[simp] theorem wake_cpu_c (s : State) : (wake s).cpu.c = s.cpu.c := rfl
@[simp] theorem wake_cpu_d (s : State) : (wake s).cpu.d = s.cpu.d := rfl
@[simp] theorem wake_cpu_e (s : State) : (wake s).cpu.e = s.cpu.e := rfl
@[simp] theorem wake_cpu_h (s : State) : (wake s).cpu.h = s.cpu.h := rfl
@[simp] theorem wake_cpu_l (s : State) : (wake s).cpu.l = s.cpu.l := rfl
@[simp] theorem wake_cpu_sp (s : State) : (wake s).cpu.sp = s.cpu.sp := rfl
@[simp] theorem wake_cpu_pc (s : State) : (wake s).cpu.pc = s.cpu.pc := rfl
@[simp] theorem wake_cpu_ime (s : State) : (wake s).cpu.ime = s.cpu.ime := rfl
@[simp] theorem wake_cpu_imeScheduled (s : State) : (wake s).cpu.imeScheduled = s.cpu.imeScheduled := rfl
@[simp] theorem wake_cpu_halted (s : State) : (wake s).cpu.halted = false := rfl

/-! ### `afterRead` -/

@[simp] theorem afterRead_config (s : State) (addr : Word) : (afterRead s addr).config = s.config := rfl
@[simp] theorem afterRead_cpu (s : State) (addr : Word) : (afterRead s addr).cpu = s.cpu := rfl
@[simp] theorem afterRead_cart (s : State) (addr : Word) : (afterRead s addr).cart = s.cart := rfl
@[simp] theorem afterRead_mmu (s : State) (addr : Word) : (afterRead s addr).mmu = s.mmu := rfl
@[simp] theorem afterRead_ppu (s : State) (addr : Word) : (afterRead s addr).ppu = s.ppu := rfl
@[simp] theorem afterRead_timer (s : State) (addr : Word) : (afterRead s addr).timer = s.timer := rfl
@[simp] theorem afterRead_pressedMask (s : State) (addr : Word) : (afterRead s addr).pressedMask = s.pressedMask := rfl
@[simp] theorem afterRead_diag (s : State) (addr : Word) : (afterRead s addr).diag = s.diag ++ readDiag s addr := rfl
@[simp] theorem afterRead_stage (s : State) (addr : Word) : (afterRead s addr).stage = s.stage := rfl

/-! ### Two updates in a row -/

@[simp] theorem emit_nil (s : State) : emit [] s = s := by simp [emit]

@[simp] theorem emit_emit (ds es : List Diag) (s : State) : emit es (emit ds s) = emit (ds ++ es) s := by
  simp [emit]

@[simp] theorem setPc_setPc (v w : Word) (s : State) : setPc w (setPc v s) = setPc w s := rfl

@[simp] theorem setSp_setSp (v w : Word) (s : State) : setSp w (setSp v s) = setSp w s := rfl

@[simp] theorem setPc_emit (v : Word) (ds : List Diag) (s : State) : setPc v (emit ds s) = emit ds (setPc v s) := rfl

@[simp] theorem setSp_emit (v : Word) (ds : List Diag) (s : State) : setSp v (emit ds s) = emit ds (setSp v s) := rfl

/-! ### The flag byte -/

@[simp] theorem flagByte_low (z n h c : Bool) : flagByte z n h c &&& 0x0F = 0 := by
  cases z <;> cases n <;> cases h <;> cases c <;> decide

theorem flagByte_bits (z n h c : Bool) :
    (flagByte z n h c).getLsbD 7 = z ∧ (flagByte z n h c).getLsbD 6 = n ∧
      (flagByte z n h c).getLsbD 5 = h ∧ (flagByte z n h c).getLsbD 4 = c := by
  cases z <;> cases n <;> cases h <;> cases c <;> decide

@[simp] theorem flagZ_setFlags (z n h c : Option Bool) (s : State) : flagZ (setFlags z n h c s) = z.getD (flagZ s) :=
  (flagByte_bits _ _ _ _).1

@[simp] theorem flagN_setFlags (z n h c : Option Bool) (s : State) : flagN (setFlags z n h c s) = n.getD (flagN s) :=
  (flagByte_bits _ _ _ _).2.1

@[simp] theorem flagH_setFlags (z n h c : Option Bool) (s : State) : flagH (setFlags z n h c s) = h.getD (flagH s) :=
  (flagByte_bits _ _ _ _).2.2.1

@[simp] theorem flagC_setFlags (z n h c : Option Bool) (s : State) : flagC (setFlags z n h c s) = c.getD (flagC s) :=
  (flagByte_bits _ _ _ _).2.2.2

end Sys2Proof.Machine
end

