-- ==== Sys2Proof/Laws/Mmu.lean ====
section
/-! SUPPORT. What the memory operations can do: where an address leads, what a read depends on, what a write leaves alone, and
that a write keeps the arrays' canonical form. -/

namespace Sys2Proof.Machine

/-! ### Reads -/

/-- Where an address leads depends on the cartridge and the selectors only. -/
theorem locate_congr {s t : State} (hc : t.cart = s.cart) (hl : t.mmu.romBankLow = s.mmu.romBankLow)
    (hh : t.mmu.romBankHigh = s.mmu.romBankHigh) (hm : t.mmu.bankingMode = s.mmu.bankingMode)
    (hr : t.mmu.ramEnabled = s.mmu.ramEnabled) (hv : t.mmu.vramBank = s.mmu.vramBank)
    (hw : t.mmu.wramBank = s.mmu.wramBank) (x : Word) : locate t x = locate s x := by
  have h1 : effRomBank t = effRomBank s := by unfold effRomBank; rw [hl, hh, hc]
  have h2 : effRamBank t = effRamBank s := by unfold effRamBank; rw [hm, hh, hc]
  have h3 : eramAnswers t = eramAnswers s := by unfold eramAnswers; rw [hr, hc]
  have h4 : wramPlace t = wramPlace s := by funext o; unfold wramPlace; rw [hw]
  unfold locate
  rw [h1, h2, h3, h4, hv]

/-- A read depends on the memory unit, the cartridge and the pressed mask only. -/
theorem readByte_congr {s t : State} (hm : t.mmu = s.mmu) (hc : t.cart = s.cart) (hp : t.pressedMask = s.pressedMask)
    (x : Word) : readByte t x = readByte s x := by
  have hl : locate t x = locate s x := by apply locate_congr <;> simp [hm, hc]
  unfold readByte
  rw [hl]
  cases locate s x <;> simp [readPlace, ioRead, slot, hm, hc, hp]

/-- So does the diagnostic of a read. -/
theorem readDiag_congr {s t : State} (hm : t.mmu = s.mmu) (hc : t.cart = s.cart) (x : Word) : readDiag t x = readDiag s x := by
  have hl : locate t x = locate s x := by apply locate_congr <;> simp [hm, hc]
  simp [readDiag, hl, hc]

@[simp] theorem readByte_emit (ds : List Diag) (s : State) (x : Word) : readByte (emit ds s) x = readByte s x :=
  readByte_congr rfl rfl rfl x

@[simp] theorem readByte_afterRead (s : State) (a x : Word) : readByte (afterRead s a) x = readByte s x :=
  readByte_congr rfl rfl rfl x

@[simp] theorem readByte_setPc (v : Word) (s : State) (x : Word) : readByte (setPc v s) x = readByte s x :=
  readByte_congr rfl rfl rfl x

@[simp] theorem readByte_setSp (v : Word) (s : State) (x : Word) : readByte (setSp v s) x = readByte s x :=
  readByte_congr rfl rfl rfl x

@[simp] theorem readDiag_emit (ds : List Diag) (s : State) (x : Word) : readDiag (emit ds s) x = readDiag s x :=
  readDiag_congr rfl rfl x

@[simp] theorem readDiag_setPc (v : Word) (s : State) (x : Word) : readDiag (setPc v s) x = readDiag s x :=
  readDiag_congr rfl rfl x

@[simp] theorem readDiag_setSp (v : Word) (s : State) (x : Word) : readDiag (setSp v s) x = readDiag s x :=
  readDiag_congr rfl rfl x

/-! ### What every write leaves alone -/

/-- Everything but the memory unit and the diagnostic output is the same. -/
structure SameOutsideMmu (s t : State) : Prop where
  config : t.config = s.config
  cpu : t.cpu = s.cpu
  cart : t.cart = s.cart
  ppu : t.ppu = s.ppu
  timer : t.timer = s.timer
  pressedMask : t.pressedMask = s.pressedMask
  stage : t.stage = s.stage
  diag : s.diag <+: t.diag

theorem SameOutsideMmu.refl (s : State) : SameOutsideMmu s s :=
  ⟨rfl, rfl, rfl, rfl, rfl, rfl, rfl, List.prefix_refl _⟩

theorem SameOutsideMmu.trans {s t u : State} (h : SameOutsideMmu s t) (g : SameOutsideMmu t u) : SameOutsideMmu s u :=
  ⟨g.config.trans h.config, g.cpu.trans h.cpu, g.cart.trans h.cart, g.ppu.trans h.ppu, g.timer.trans h.timer,
    g.pressedMask.trans h.pressedMask, g.stage.trans h.stage, h.diag.trans g.diag⟩

/-- A state that differs in the memory unit only. -/
theorem SameOutsideMmu.of_mmu (s : State) (m : Mmu) : SameOutsideMmu s { s with mmu := m } :=
  ⟨rfl, rfl, rfl, rfl, rfl, rfl, rfl, List.prefix_refl _⟩

theorem SameOutsideMmu.of_emit (s : State) (ds : List Diag) : SameOutsideMmu s (emit ds s) :=
  ⟨rfl, rfl, rfl, rfl, rfl, rfl, rfl, List.prefix_append _ _⟩

theorem dmaByte_same (v : Byte) (i : Nat) (s : State) : SameOutsideMmu s (dmaByte v i s) :=
  (SameOutsideMmu.of_emit s (readDiag s (dmaSource v i))).trans (SameOutsideMmu.of_mmu _ _)

theorem dmaCopy_same (v : Byte) (n i : Nat) (s : State) : SameOutsideMmu s (dmaCopy v n i s) := by
  induction n generalizing i s with
  | zero => exact SameOutsideMmu.refl s
  | succ n ih => exact (dmaByte_same v i s).trans (ih (i + 1) _)

theorem ioWrite_same (k : Nat) (v : Byte) (s : State) : SameOutsideMmu s (ioWrite k v s) := by
  unfold ioWrite
  split
  · exact SameOutsideMmu.of_mmu s _
  · split
    · exact (dmaCopy_same v oamSize 0 s).trans (SameOutsideMmu.of_mmu _ _)
    · split
      · exact SameOutsideMmu.of_mmu s _
      · split <;> exact SameOutsideMmu.of_mmu s _

theorem cartControl_same (addr : Word) (v : Byte) (s : State) : SameOutsideMmu s (cartControl addr v s) := by
  unfold cartControl
  split
  · split
    · exact SameOutsideMmu.of_mmu s _
    · split
      · exact SameOutsideMmu.of_mmu s _
      · split <;> exact SameOutsideMmu.of_mmu s _
  · exact SameOutsideMmu.refl s

/-- A write changes the memory unit and the diagnostic output only, and appends to the latter. -/
theorem memWrite_same (addr : Word) (v : Byte) (s : State) : SameOutsideMmu s (memWrite addr v s) := by
  unfold memWrite
  cases locate s addr with
  | rom i => exact cartControl_same addr v s
  | vram i => exact SameOutsideMmu.of_mmu s _
  | eram i => exact SameOutsideMmu.of_mmu s _
  | noEram => exact SameOutsideMmu.refl s
  | wram i => exact SameOutsideMmu.of_mmu s _
  | oam i => exact SameOutsideMmu.of_mmu s _
  | unusable => exact SameOutsideMmu.of_emit s _
  | io k => exact ioWrite_same k v s
  | hram i => exact SameOutsideMmu.of_mmu s _
  | ie => exact SameOutsideMmu.of_mmu s _

@[simp] theorem memWrite_config (a : Word) (v : Byte) (s : State) : (memWrite a v s).config = s.config := (memWrite_same a v s).config
@[simp] theorem memWrite_cpu (a : Word) (v : Byte) (s : State) : (memWrite a v s).cpu = s.cpu := (memWrite_same a v s).cpu
@[simp] theorem memWrite_cart (a : Word) (v : Byte) (s : State) : (memWrite a v s).cart = s.cart := (memWrite_same a v s).cart
@[simp] theorem memWrite_ppu (a : Word) (v : Byte) (s : State) : (memWrite a v s).ppu = s.ppu := (memWrite_same a v s).ppu
@[simp] theorem memWrite_timer (a : Word) (v : Byte) (s : State) : (memWrite a v s).timer = s.timer := (memWrite_same a v s).timer
@[simp] theorem memWrite_pressedMask (a : Word) (v : Byte) (s : State) : (memWrite a v s).pressedMask = s.pressedMask :=
  (memWrite_same a v s).pressedMask
@[simp] theorem memWrite_stage (a : Word) (v : Byte) (s : State) : (memWrite a v s).stage = s.stage := (memWrite_same a v s).stage

/-! ### A write and the CPU do not depend on each other -/

/-- The state with another CPU register file. -/
def withCpu (c : Cpu) (s : State) : State := { s with cpu := c }

@[simp] theorem withCpu_cpu (s : State) : withCpu s.cpu s = s := rfl

theorem dmaCopy_withCpu (c : Cpu) (v : Byte) (n i : Nat) (s : State) :
    dmaCopy v n i (withCpu c s) = withCpu c (dmaCopy v n i s) := by
  induction n generalizing i s with
  | zero => rfl
  | succ n ih =>
    have h : dmaByte v i (withCpu c s) = withCpu c (dmaByte v i s) := by
      have hr : readByte (withCpu c s) (dmaSource v i) = readByte s (dmaSource v i) := readByte_congr rfl rfl rfl _
      have hd : readDiag (withCpu c s) (dmaSource v i) = readDiag s (dmaSource v i) := readDiag_congr rfl rfl _
      simp only [dmaByte, memRead, afterRead, hr, hd]
      rfl
    simp only [dmaCopy, h, ih]

/-- A write commutes with any change of the CPU registers. -/
theorem memWrite_withCpu (c : Cpu) (a : Word) (v : Byte) (s : State) :
    memWrite a v (withCpu c s) = withCpu c (memWrite a v s) := by
  have hl : locate (withCpu c s) a = locate s a := locate_congr rfl rfl rfl rfl rfl rfl rfl a
  unfold memWrite
  rw [hl]
  cases locate s a with
  | rom i =>
    simp only [writePlace, cartControl, show hasMbc1 (withCpu c s) = hasMbc1 s from rfl]
    split
    · split
      · rfl
      · split
        · rfl
        · split <;> rfl
    · rfl
  | io k =>
    simp only [writePlace, ioWrite]
    split
    · rfl
    · split
      · rw [dmaCopy_withCpu]; rfl
      · split
        · rfl
        · split <;> rfl
  | _ => rfl

theorem memWrite_setSp (w a : Word) (v : Byte) (s : State) : memWrite a v (setSp w s) = setSp w (memWrite a v s) := by
  have h := memWrite_withCpu { s.cpu with sp := w } a v s
  rw [show withCpu { s.cpu with sp := w } (memWrite a v s) = setSp w (memWrite a v s) by
    simp [withCpu, setSp]] at h
  exact h

theorem memWrite_setPc (w a : Word) (v : Byte) (s : State) : memWrite a v (setPc w s) = setPc w (memWrite a v s) := by
  have h := memWrite_withCpu { s.cpu with pc := w } a v s
  rw [show withCpu { s.cpu with pc := w } (memWrite a v s) = setPc w (memWrite a v s) by
    simp [withCpu, setPc]] at h
  exact h

end Sys2Proof.Machine
end

