-- ==== Sys2Proof/Laws/Map.lean ====
section
/-! SUPPORT. The address map range by range, its bounds, the invariant of the memory unit under a write, and the frame of a
write: which reads it can change. -/

namespace Sys2Proof.Machine

/-! ### The map by ranges (R81) -/

theorem locate_romFixed (s : State) {x : Word} (h : x.toNat < 0x4000) : locate s x = .rom x.toNat := by
  unfold locate; dsimp only; rw [if_pos h]

theorem locate_romBanked (s : State) {x : Word} (h : 0x4000 ≤ x.toNat) (h' : x.toNat < 0x8000) :
    locate s x = .rom (effRomBank s * romBankSize + (x.toNat - 0x4000)) := by
  unfold locate; dsimp only
  repeat rw [if_neg (by omega)]
  rw [if_pos h']

theorem locate_vram (s : State) {x : Word} (h : 0x8000 ≤ x.toNat) (h' : x.toNat < 0xA000) :
    locate s x = .vram (s.mmu.vramBank.toNat * vramBankSize + (x.toNat - 0x8000)) := by
  unfold locate; dsimp only
  repeat rw [if_neg (by omega)]
  rw [if_pos h']

theorem locate_eram (s : State) {x : Word} (h : 0xA000 ≤ x.toNat) (h' : x.toNat < 0xC000) :
    locate s x =
      if eramAnswers s then .eram (effRamBank s * ramBankSize + (x.toNat - 0xA000)) else .noEram := by
  unfold locate; dsimp only
  repeat rw [if_neg (by omega)]
  rw [if_pos h']

theorem locate_wram (s : State) {x : Word} (h : 0xC000 ≤ x.toNat) (h' : x.toNat < 0xE000) :
    locate s x = wramPlace s (x.toNat - 0xC000) := by
  unfold locate; dsimp only
  repeat rw [if_neg (by omega)]
  rw [if_pos h']

theorem locate_echo (s : State) {x : Word} (h : 0xE000 ≤ x.toNat) (h' : x.toNat < 0xFE00) :
    locate s x = wramPlace s (x.toNat - 0xE000) := by
  unfold locate; dsimp only
  repeat rw [if_neg (by omega)]
  rw [if_pos h']

theorem locate_oam (s : State) {x : Word} (h : 0xFE00 ≤ x.toNat) (h' : x.toNat < 0xFEA0) :
    locate s x = .oam (x.toNat - 0xFE00) := by
  unfold locate; dsimp only
  repeat rw [if_neg (by omega)]
  rw [if_pos h']

theorem locate_unusable (s : State) {x : Word} (h : 0xFEA0 ≤ x.toNat) (h' : x.toNat < 0xFF00) : locate s x = .unusable := by
  unfold locate; dsimp only
  repeat rw [if_neg (by omega)]
  rw [if_pos h']

theorem locate_io (s : State) {x : Word} (h : 0xFF00 ≤ x.toNat) (h' : x.toNat < 0xFF80) :
    locate s x = .io (x.toNat - 0xFF00) := by
  unfold locate; dsimp only
  repeat rw [if_neg (by omega)]
  rw [if_pos h']

theorem locate_hram (s : State) {x : Word} (h : 0xFF80 ≤ x.toNat) (h' : x.toNat < 0xFFFF) :
    locate s x = .hram (x.toNat - 0xFF80) := by
  unfold locate; dsimp only
  repeat rw [if_neg (by omega)]
  rw [if_pos h']

theorem locate_ie (s : State) {x : Word} (h : x.toNat = 0xFFFF) : locate s x = .ie := by
  unfold locate; dsimp only
  repeat rw [if_neg (by omega)]

/-- A place in an offset of the work-RAM window is a work-RAM place. -/
theorem wramPlace_eq (s : State) (o : Nat) :
    wramPlace s o =
      .wram (if o < wramBankSize then o else s.mmu.wramBank.toNat * wramBankSize + (o - wramBankSize)) := by
  unfold wramPlace; split <;> rfl

/-- The whole map, one case per range. -/
theorem locate_cases (s : State) (x : Word) :
    (x.toNat < 0x4000 ∧ locate s x = .rom x.toNat) ∨
    (0x4000 ≤ x.toNat ∧ x.toNat < 0x8000 ∧ locate s x = .rom (effRomBank s * romBankSize + (x.toNat - 0x4000))) ∨
    (0x8000 ≤ x.toNat ∧ x.toNat < 0xA000 ∧
      locate s x = .vram (s.mmu.vramBank.toNat * vramBankSize + (x.toNat - 0x8000))) ∨
    (0xA000 ≤ x.toNat ∧ x.toNat < 0xC000 ∧
      locate s x = if eramAnswers s then .eram (effRamBank s * ramBankSize + (x.toNat - 0xA000)) else .noEram) ∨
    (0xC000 ≤ x.toNat ∧ x.toNat < 0xE000 ∧ locate s x = wramPlace s (x.toNat - 0xC000)) ∨
    (0xE000 ≤ x.toNat ∧ x.toNat < 0xFE00 ∧ locate s x = wramPlace s (x.toNat - 0xE000)) ∨
    (0xFE00 ≤ x.toNat ∧ x.toNat < 0xFEA0 ∧ locate s x = .oam (x.toNat - 0xFE00)) ∨
    (0xFEA0 ≤ x.toNat ∧ x.toNat < 0xFF00 ∧ locate s x = .unusable) ∨
    (0xFF00 ≤ x.toNat ∧ x.toNat < 0xFF80 ∧ locate s x = .io (x.toNat - 0xFF00)) ∨
    (0xFF80 ≤ x.toNat ∧ x.toNat < 0xFFFF ∧ locate s x = .hram (x.toNat - 0xFF80)) ∨
    (x.toNat = 0xFFFF ∧ locate s x = .ie) := by
  have hx := x.isLt
  by_cases h1 : x.toNat < 0x4000
  · exact .inl ⟨h1, locate_romFixed s h1⟩
  by_cases h2 : x.toNat < 0x8000
  · exact .inr (.inl ⟨by omega, h2, locate_romBanked s (by omega) h2⟩)
  by_cases h3 : x.toNat < 0xA000
  · exact .inr (.inr (.inl ⟨by omega, h3, locate_vram s (by omega) h3⟩))
  by_cases h4 : x.toNat < 0xC000
  · exact .inr (.inr (.inr (.inl ⟨by omega, h4, locate_eram s (by omega) h4⟩)))
  by_cases h5 : x.toNat < 0xE000
  · exact .inr (.inr (.inr (.inr (.inl ⟨by omega, h5, locate_wram s (by omega) h5⟩))))
  by_cases h6 : x.toNat < 0xFE00
  · exact .inr (.inr (.inr (.inr (.inr (.inl ⟨by omega, h6, locate_echo s (by omega) h6⟩)))))
  by_cases h7 : x.toNat < 0xFEA0
  · exact .inr (.inr (.inr (.inr (.inr (.inr (.inl ⟨by omega, h7, locate_oam s (by omega) h7⟩))))))
  by_cases h8 : x.toNat < 0xFF00
  · exact .inr (.inr (.inr (.inr (.inr (.inr (.inr (.inl ⟨by omega, h8, locate_unusable s (by omega) h8⟩)))))))
  by_cases h9 : x.toNat < 0xFF80
  · exact .inr (.inr (.inr (.inr (.inr (.inr (.inr (.inr (.inl ⟨by omega, h9, locate_io s (by omega) h9⟩))))))))
  by_cases h10 : x.toNat < 0xFFFF
  · exact .inr (.inr (.inr (.inr (.inr (.inr (.inr (.inr (.inr
      (.inl ⟨by omega, h10, locate_hram s (by omega) h10⟩)))))))))
  · exact .inr (.inr (.inr (.inr (.inr (.inr (.inr (.inr (.inr
      (.inr ⟨by omega, locate_ie s (by omega)⟩)))))))))

/-! ### Bounds -/

/-- The effective RAM bank is inside external RAM (R86). -/
theorem effRamBank_lt (s : State) (h : eramAnswers s = true) : effRamBank s < s.cart.numRamBanks := by
  have hpos : 0 < s.cart.numRamBanks := by
    simp only [eramAnswers, Bool.and_eq_true, decide_eq_true_eq] at h; exact h.1
  unfold effRamBank
  split
  · exact hpos
  · exact Nat.mod_lt _ hpos

/-- The offset of a place in its array, and the size of the array; a place with no array is the one offset of one. -/
def Place.offset : Place → Nat
  | .rom i | .vram i | .eram i | .wram i | .oam i | .hram i => i
  | .io k => k
  | .noEram | .unusable | .ie => 0

/-- See `Place.offset`. The image is left out: an offset may lie past it. -/
def Place.size (s : State) : Place → Nat
  | .rom i => i + 1
  | .vram _ => 2 * vramBankSize
  | .eram _ => s.cart.numRamBanks * ramBankSize
  | .wram _ => 8 * wramBankSize
  | .oam _ => oamSize
  | .io _ => ioSize
  | .hram _ => hramSize
  | .noEram | .unusable | .ie => 1

/-- A place lies inside its array. -/
def Place.InBounds (s : State) (p : Place) : Prop := p.offset < p.size s

theorem rom_inBounds (s : State) (i : Nat) : (Place.rom i).InBounds s := Nat.lt_succ_self i

theorem vram_inBounds (s : State) (i : Nat) (h : i < 2 * vramBankSize) : (Place.vram i).InBounds s := h

theorem eram_inBounds (s : State) (i : Nat) (h : i < s.cart.numRamBanks * ramBankSize) : (Place.eram i).InBounds s := h

theorem wram_inBounds (s : State) (i : Nat) (h : i < 8 * wramBankSize) : (Place.wram i).InBounds s := h

theorem oam_inBounds (s : State) (i : Nat) (h : i < oamSize) : (Place.oam i).InBounds s := h

theorem io_inBounds (s : State) (k : Nat) (h : k < ioSize) : (Place.io k).InBounds s := h

theorem hram_inBounds (s : State) (i : Nat) (h : i < hramSize) : (Place.hram i).InBounds s := h

theorem wramPlace_inBounds (s : State) (o : Nat) (h : o < 0x2000) : (wramPlace s o).InBounds s := by
  have hw := s.mmu.wramBank.isLt
  have h3 : wramBankSize = 0x1000 := rfl
  unfold wramPlace
  split
  · exact wram_inBounds s _ (by omega)
  · exact wram_inBounds s _ (by rw [h3]; omega)

/-- Every address that leads to an array leads inside it. -/
theorem locate_inBounds (s : State) (x : Word) : (locate s x).InBounds s := by
  rcases locate_cases s x with h | h | h | h | h | h | h | h | h | h | h
  · rw [h.2]; exact rom_inBounds s _
  · rw [h.2.2]; exact rom_inBounds s _
  · rw [h.2.2]
    have := s.mmu.vramBank.isLt
    have h3 : vramBankSize = 0x2000 := rfl
    exact vram_inBounds s _ (by rw [h3]; omega)
  · rw [h.2.2]
    split
    · rename_i he
      have := effRamBank_lt s he
      have h2 : (effRamBank s + 1) * ramBankSize ≤ s.cart.numRamBanks * ramBankSize := Nat.mul_le_mul_right _ this
      have h3 : ramBankSize = 0x2000 := rfl
      rw [Nat.succ_mul] at h2
      exact eram_inBounds s _ (by omega)
    · exact Nat.lt_succ_self _
  · obtain ⟨h1, h2, h3⟩ := h
    rw [h3]
    exact wramPlace_inBounds s (x.toNat - 0xC000) (by omega)
  · obtain ⟨h1, h2, h3⟩ := h
    rw [h3]
    exact wramPlace_inBounds s (x.toNat - 0xE000) (by omega)
  · rw [h.2.2]
    have h3 : oamSize = 160 := rfl
    exact oam_inBounds s _ (by omega)
  · rw [h.2.2]; exact Nat.lt_succ_self _
  · rw [h.2.2]
    have h3 : ioSize = 128 := rfl
    exact io_inBounds s _ (by omega)
  · rw [h.2.2]
    have h3 : hramSize = 127 := rfl
    exact hram_inBounds s _ (by omega)
  · rw [h.2]; exact Nat.lt_succ_self _

/-! ### The invariant of the memory unit -/

/-- The part of `Inv` that is about the cartridge and the memory unit. -/
structure MmuInv (cart : Cart) (m : Mmu) : Prop where
  romBankLow : m.romBankLow ≠ 0
  wramBank : m.wramBank ≠ 0
  selectors : (cart.cartType == 0x01 || cart.cartType == 0x02 || cart.cartType == 0x03) = false →
    m.romBankLow = 1 ∧ m.romBankHigh = 0 ∧ m.bankingMode = 0 ∧ m.ramEnabled = false
  eramWf : m.eram.wf (cart.numRamBanks * ramBankSize)
  wramWf : m.wram.wf (8 * wramBankSize)
  vramWf : m.vram.wf (2 * vramBankSize)
  oamWf : m.oam.wf oamSize
  ioWf : m.io.wf ioSize
  hramWf : m.hram.wf hramSize

theorem Inv.mmuInv {s : State} (h : Inv s) : MmuInv s.cart s.mmu :=
  ⟨h.romBankLow, h.wramBank, h.selectors, h.eramWf, h.wramWf, h.vramWf, h.oamWf, h.ioWf, h.hramWf⟩

theorem nonzero_ne_zero {w : Nat} (hw : 1 ≤ w) (v : BitVec w) : nonzero v ≠ 0 := by
  unfold nonzero
  split
  · intro h
    have := congrArg BitVec.toNat h
    have hp : 1 < 2 ^ w := Nat.one_lt_two_pow (by omega)
    simp [Nat.mod_eq_of_lt hp] at this
  · assumption

/-- A raw slot write keeps the invariant. -/
theorem MmuInv.setSlot {s : State} (h : MmuInv s.cart s.mmu) {k : Nat} (hk : k < ioSize) (v : Byte) :
    MmuInv (Machine.setSlot k v s).cart (Machine.setSlot k v s).mmu :=
  { h with ioWf := Memory.wf_store h.ioWf hk v }

theorem MmuInv.dmaCopy {v : Byte} {n i : Nat} {s : State} (h : MmuInv s.cart s.mmu) (hn : i + n ≤ oamSize) :
    MmuInv (Machine.dmaCopy v n i s).cart (Machine.dmaCopy v n i s).mmu := by
  induction n generalizing i s with
  | zero => exact h
  | succ n ih =>
    refine ih ?_ (by omega)
    exact { h with oamWf := Memory.wf_store h.oamWf (by omega) _ }

theorem MmuInv.ioWrite {s : State} (h : MmuInv s.cart s.mmu) {k : Nat} (hk : k < ioSize) (v : Byte) :
    MmuInv (Machine.ioWrite k v s).cart (Machine.ioWrite k v s).mmu := by
  unfold Machine.ioWrite
  split
  · exact h.setSlot (by decide) 0
  · split
    · exact (h.dmaCopy (by simp)).setSlot (by decide) v
    · split
      · exact MmuInv.setSlot (s := { s with mmu := { s.mmu with vramBank := v.extractLsb' 0 1 } }) { h with } (by decide) v
      · split
        · exact MmuInv.setSlot (s := { s with mmu := { s.mmu with wramBank := nonzero (v.extractLsb' 0 3) } })
            { h with wramBank := nonzero_ne_zero (by decide) _ } (by decide) v
        · exact h.setSlot hk v

theorem MmuInv.cartControl {s : State} (h : MmuInv s.cart s.mmu) (addr : Word) (v : Byte) :
    MmuInv (Machine.cartControl addr v s).cart (Machine.cartControl addr v s).mmu := by
  unfold Machine.cartControl
  split
  · rename_i hm
    have hn : ¬ (s.cart.cartType == 0x01 || s.cart.cartType == 0x02 || s.cart.cartType == 0x03) = false := by
      rw [show (s.cart.cartType == 0x01 || s.cart.cartType == 0x02 || s.cart.cartType == 0x03) = true from hm]; simp
    split
    · exact { h with selectors := fun hc => absurd hc hn }
    · split
      · exact { h with romBankLow := nonzero_ne_zero (by decide) _, selectors := fun hc => absurd hc hn }
      · split
        · exact { h with selectors := fun hc => absurd hc hn }
        · exact { h with selectors := fun hc => absurd hc hn }
  · exact h

/-- A write keeps the invariant of the memory unit. -/
theorem MmuInv.memWrite {s : State} (h : MmuInv s.cart s.mmu) (addr : Word) (v : Byte) :
    MmuInv (Machine.memWrite addr v s).cart (Machine.memWrite addr v s).mmu := by
  have hb := locate_inBounds s addr
  unfold Machine.memWrite
  cases hl : locate s addr with
  | rom i => exact h.cartControl addr v
  | vram i => rw [hl] at hb; exact { h with vramWf := Memory.wf_store h.vramWf hb v }
  | eram i => rw [hl] at hb; exact { h with eramWf := Memory.wf_store h.eramWf hb v }
  | noEram => exact h
  | wram i => rw [hl] at hb; exact { h with wramWf := Memory.wf_store h.wramWf hb v }
  | oam i => rw [hl] at hb; exact { h with oamWf := Memory.wf_store h.oamWf hb v }
  | unusable => exact h
  | io k => rw [hl] at hb; exact h.ioWrite hb v
  | hram i => rw [hl] at hb; exact { h with hramWf := Memory.wf_store h.hramWf hb v }
  | ie => exact { h with }

end Sys2Proof.Machine
end

