-- ==== Sys2Proof/Laws/Frame.lean ====
section
/-! SUPPORT. The frame of one write: an address the write does not reach (`storeReaches`) reads as before. -/

namespace Sys2Proof.Machine

/-- An address leads where it led before if the selectors of its own window are as before. -/
theorem locate_congr_window {s t : State} {x : Word}
    (hrom : inRange 0x4000 0x7FFF x → effRomBank t = effRomBank s)
    (heram : inRange 0xA000 0xBFFF x → eramAnswers t = eramAnswers s ∧ effRamBank t = effRamBank s)
    (hv : inRange 0x8000 0x9FFF x → t.mmu.vramBank = s.mmu.vramBank)
    (hw : inRange 0xD000 0xDFFF x ∨ inRange 0xF000 0xFDFF x → t.mmu.wramBank = s.mmu.wramBank) :
    locate t x = locate s x := by
  have h1000 : wramBankSize = 0x1000 := rfl
  rcases locate_cases s x with h | h | h | h | h | h | h | h | h | h | h
  · rw [h.2, locate_romFixed t h.1]
  · rw [h.2.2, locate_romBanked t h.1 h.2.1, hrom ⟨h.1, by omega⟩]
  · rw [h.2.2, locate_vram t h.1 h.2.1, hv ⟨h.1, by omega⟩]
  · rw [h.2.2, locate_eram t h.1 h.2.1, (heram ⟨h.1, by omega⟩).1, (heram ⟨h.1, by omega⟩).2]
  · rw [h.2.2, locate_wram t h.1 h.2.1, wramPlace_eq, wramPlace_eq]
    by_cases ho : x.toNat - 0xC000 < wramBankSize
    · rw [if_pos ho, if_pos ho]
    · rw [if_neg ho, if_neg ho, hw (.inl ⟨by omega, by omega⟩)]
  · rw [h.2.2, locate_echo t h.1 h.2.1, wramPlace_eq, wramPlace_eq]
    by_cases ho : x.toNat - 0xE000 < wramBankSize
    · rw [if_pos ho, if_pos ho]
    · rw [if_neg ho, if_neg ho, hw (.inr ⟨by omega, by omega⟩)]
  · rw [h.2.2, locate_oam t h.1 h.2.1]
  · rw [h.2.2, locate_unusable t h.1 h.2.1]
  · rw [h.2.2, locate_io t h.1 h.2.1]
  · rw [h.2.2, locate_hram t h.1 h.2.1]
  · rw [h.2, locate_ie t h.1]

/-- Where only the I/O window leads. -/
theorem toNat_of_locate_io {s : State} {x : Word} {k : Nat} (h : locate s x = .io k) : x.toNat = 0xFF00 + k := by
  rcases locate_cases s x with g | g | g | g | g | g | g | g | g | g | g
  · rw [g.2] at h; cases h
  · rw [g.2.2] at h; cases h
  · rw [g.2.2] at h; cases h
  · rw [g.2.2] at h; split at h <;> cases h
  · rw [g.2.2, wramPlace_eq] at h; cases h
  · rw [g.2.2, wramPlace_eq] at h; cases h
  · rw [g.2.2] at h; cases h
  · rw [g.2.2] at h; cases h
  · obtain ⟨g1, g2, g3⟩ := g
    rw [g3] at h
    have := Place.io.inj h
    omega
  · rw [g.2.2] at h; cases h
  · rw [g.2] at h; cases h

/-- Where only the OAM range leads. -/
theorem toNat_of_locate_oam {s : State} {x : Word} {i : Nat} (h : locate s x = .oam i) : x.toNat = 0xFE00 + i := by
  rcases locate_cases s x with g | g | g | g | g | g | g | g | g | g | g
  · rw [g.2] at h; cases h
  · rw [g.2.2] at h; cases h
  · rw [g.2.2] at h; cases h
  · rw [g.2.2] at h; split at h <;> cases h
  · rw [g.2.2, wramPlace_eq] at h; cases h
  · rw [g.2.2, wramPlace_eq] at h; cases h
  · obtain ⟨g1, g2, g3⟩ := g
    rw [g3] at h
    have := Place.oam.inj h
    omega
  · rw [g.2.2] at h; cases h
  · rw [g.2.2] at h; cases h
  · rw [g.2.2] at h; cases h
  · rw [g.2] at h; cases h

/-- The read of an address that leads to slot `k` determines the address. -/
theorem eq_of_locate_io {s t : State} {a x : Word} {k : Nat} (h : locate s a = .io k) (g : locate t x = .io k) : x = a :=
  BitVec.eq_of_toNat_eq (by rw [toNat_of_locate_io h, toNat_of_locate_io g])

theorem slot_setSlot_other {k j : Nat} (v : Byte) (s : State) (h : k ≠ j) : slot (setSlot k v s) j = slot s j :=
  Memory.byteAt_store_other _ _ h

/-- A raw slot write is seen only through the slot's own address. -/
theorem readByte_setSlot_other (k : Nat) (v : Byte) (s : State) (x : Word) (h : locate s x ≠ .io k) :
    readByte (setSlot k v s) x = readByte s x := by
  have hl : locate (setSlot k v s) x = locate s x := locate_congr rfl rfl rfl rfl rfl rfl rfl x
  unfold readByte
  rw [hl]
  generalize locate s x = p at h
  cases p with
  | io j =>
    have hkj : k ≠ j := fun e => h (by rw [e])
    have hs : slot (setSlot k v s) j = slot s j := slot_setSlot_other v s hkj
    unfold readPlace ioRead
    dsimp only [setSlot_mmu_vramBank, setSlot_mmu_wramBank, setSlot_pressedMask]
    rw [hs]
    by_cases hj : j = slotP1
    · rw [← hj, hs]
    · rw [if_neg hj, if_neg hj]
  | _ => rfl

/-- An OAM store is seen only through the OAM range. -/
theorem readByte_dmaCopy_other (v : Byte) (n i : Nat) (s : State) (x : Word) (h : ¬ inRange 0xFE00 0xFE9F x) :
    readByte (dmaCopy v n i s) x = readByte s x := by
  induction n generalizing i s with
  | zero => rfl
  | succ n ih =>
    rw [show dmaCopy v (n + 1) i s = dmaCopy v n (i + 1) (dmaByte v i s) from rfl, ih]
    have hl : locate (dmaByte v i s) x = locate s x := locate_congr rfl rfl rfl rfl rfl rfl rfl x
    have hb := locate_inBounds s x
    unfold readByte
    rw [hl]
    cases hp : locate s x with
    | oam j =>
      exfalso
      rw [hp] at hb
      have hx := toNat_of_locate_oam hp
      have hj : j < oamSize := hb
      have : oamSize = 160 := rfl
      exact h ⟨by omega, by omega⟩
    | _ => rfl

theorem readByte_of_mmu_eram {s : State} {x : Word} {i : Nat} (v : Byte)
    (h : ¬ locate s x = .eram i) :
    readByte { s with mmu := { s.mmu with eram := s.mmu.eram.store i v } } x = readByte s x := by
  unfold readByte
  rw [show locate { s with mmu := { s.mmu with eram := s.mmu.eram.store i v } } x = locate s x from
    locate_congr rfl rfl rfl rfl rfl rfl rfl x]
  generalize locate s x = p at h
  cases p with
  | eram j => exact Memory.byteAt_store_other _ _ fun e => h (by rw [e])
  | _ => rfl

/-- The frame of a write (R118, R66): what `storeReaches` does not name reads as before. -/
theorem readByte_memWrite_other {s : State} {a x : Word} (v : Byte) (h : ¬ storeReaches s a x) :
    readByte (memWrite a v s) x = readByte s x := by
  unfold storeReaches at h
  unfold memWrite
  cases hl : locate s a with
  | rom i =>
    rw [hl] at h
    unfold writePlace cartControl
    dsimp only at h ⊢
    by_cases hm : hasMbc1 s = true
    · rw [if_pos hm]
      replace h : ¬ _ := fun g => h ⟨hm, g⟩
      by_cases h1 : a.toNat < 0x2000
      · rw [if_pos h1] at h ⊢
        have hloc := locate_congr_window (s := s) (t := { s with mmu := { s.mmu with ramEnabled := v &&& 0x0F == 0x0A } }) (x := x)
          (fun _ => rfl) (fun g => absurd g h) (fun _ => rfl) (fun _ => rfl)
        unfold readByte; rw [hloc]; cases locate s x <;> rfl
      · rw [if_neg h1] at h ⊢
        by_cases h2 : a.toNat < 0x4000
        · rw [if_pos h2] at h ⊢
          have hloc := locate_congr_window (s := s)
            (t := { s with mmu := { s.mmu with romBankLow := nonzero (v.extractLsb' 0 5) } }) (x := x)
            (fun g => absurd g h) (fun _ => ⟨rfl, rfl⟩) (fun _ => rfl) (fun _ => rfl)
          unfold readByte; rw [hloc]; cases locate s x <;> rfl
        · rw [if_neg h2] at h ⊢
          by_cases h3 : a.toNat < 0x6000
          · rw [if_pos h3] at h ⊢
            have hloc := locate_congr_window (s := s)
              (t := { s with mmu := { s.mmu with romBankHigh := v.extractLsb' 0 2 } }) (x := x)
              (fun g => absurd (.inl g) h) (fun g => absurd (.inr g) h) (fun _ => rfl) (fun _ => rfl)
            unfold readByte; rw [hloc]; cases locate s x <;> rfl
          · rw [if_neg h3] at h ⊢
            have hloc := locate_congr_window (s := s)
              (t := { s with mmu := { s.mmu with bankingMode := v.extractLsb' 0 1 } }) (x := x)
              (fun _ => rfl) (fun g => absurd g h) (fun _ => rfl) (fun _ => rfl)
            unfold readByte; rw [hloc]; cases locate s x <;> rfl
    · rw [if_neg hm]
  | vram i =>
    rw [hl] at h; dsimp only at h
    unfold writePlace readByte
    rw [show locate { s with mmu := { s.mmu with vram := s.mmu.vram.store i v } } x = locate s x from
      locate_congr rfl rfl rfl rfl rfl rfl rfl x]
    generalize locate s x = p at h
    cases p with
    | vram j => exact Memory.byteAt_store_other _ _ fun e => h (by rw [e])
    | _ => rfl
  | eram i => rw [hl] at h; exact readByte_of_mmu_eram v h
  | noEram => rfl
  | wram i =>
    rw [hl] at h; dsimp only at h
    unfold writePlace readByte
    rw [show locate { s with mmu := { s.mmu with wram := s.mmu.wram.store i v } } x = locate s x from
      locate_congr rfl rfl rfl rfl rfl rfl rfl x]
    generalize locate s x = p at h
    cases p with
    | wram j => exact Memory.byteAt_store_other _ _ fun e => h (by rw [e])
    | _ => rfl
  | oam i =>
    rw [hl] at h; dsimp only at h
    unfold writePlace readByte
    rw [show locate (setOam i v s) x = locate s x from locate_congr rfl rfl rfl rfl rfl rfl rfl x]
    generalize locate s x = p at h
    cases p with
    | oam j => exact Memory.byteAt_store_other _ _ fun e => h (by rw [e])
    | _ => rfl
  | unusable => exact readByte_emit _ s x
  | io k =>
    rw [hl] at h; dsimp only at h
    have hne : locate s x ≠ .io k := fun g => h (.inl (eq_of_locate_io hl g))
    unfold writePlace ioWrite
    dsimp only
    by_cases h1 : k = slotDiv
    · rw [if_pos h1]; exact readByte_setSlot_other _ _ _ _ (h1 ▸ hne)
    · rw [if_neg h1]
      by_cases h2 : k = slotDma
      · rw [if_pos h2]
        have ho : ¬ inRange 0xFE00 0xFE9F x := fun g => h (.inr (.inl ⟨h2, g⟩))
        have hs := dmaCopy_same v oamSize 0 s
        rw [readByte_setSlot_other _ _ _ _ ?_, readByte_dmaCopy_other _ _ _ _ _ ho]
        intro g
        exact h (.inl (eq_of_locate_io (h2 ▸ hl) g))
      · rw [if_neg h2]
        by_cases h3 : k = slotVbk
        · rw [if_pos h3]
          have hr : ¬ inRange 0x8000 0x9FFF x := fun g => h (.inr (.inr (.inl ⟨h3, g⟩)))
          have hloc := locate_congr_window (s := s)
            (t := { s with mmu := { s.mmu with vramBank := v.extractLsb' 0 1 } }) (x := x)
            (fun _ => rfl) (fun _ => ⟨rfl, rfl⟩) (fun g => absurd g hr) (fun _ => rfl)
          rw [readByte_setSlot_other _ _ _ _ (by rw [hloc]; exact h3 ▸ hne)]
          unfold readByte; rw [hloc]
          cases hp : locate s x with
          | io j =>
            have hj : ¬ j = slotVbk := fun e => hne (by rw [hp, e, h3])
            unfold readPlace ioRead
            dsimp only
            rw [if_neg hj, if_neg hj]
            rfl
          | _ => rfl
        · rw [if_neg h3]
          by_cases h4 : k = slotSvbk
          · rw [if_pos h4]
            have hr : ¬ (inRange 0xD000 0xDFFF x ∨ inRange 0xF000 0xFDFF x) := fun g => h (.inr (.inr (.inr ⟨h4, g⟩)))
            have hloc := locate_congr_window (s := s)
              (t := { s with mmu := { s.mmu with wramBank := nonzero (v.extractLsb' 0 3) } }) (x := x)
              (fun _ => rfl) (fun _ => ⟨rfl, rfl⟩) (fun _ => rfl) (fun g => absurd g hr)
            rw [readByte_setSlot_other _ _ _ _ (by rw [hloc]; exact h4 ▸ hne)]
            unfold readByte; rw [hloc]
            cases hp : locate s x with
            | io j =>
              have hj : ¬ j = slotSvbk := fun e => hne (by rw [hp, e, h4])
              unfold readPlace ioRead
              dsimp only
              rw [if_neg hj, if_neg hj]
              rfl
            | _ => rfl
          · rw [if_neg h4]; exact readByte_setSlot_other _ _ _ _ hne
  | hram i =>
    rw [hl] at h; dsimp only at h
    unfold writePlace readByte
    rw [show locate { s with mmu := { s.mmu with hram := s.mmu.hram.store i v } } x = locate s x from
      locate_congr rfl rfl rfl rfl rfl rfl rfl x]
    generalize locate s x = p at h
    cases p with
    | hram j => exact Memory.byteAt_store_other _ _ fun e => h (by rw [e])
    | _ => rfl
  | ie =>
    rw [hl] at h; dsimp only at h
    unfold writePlace readByte
    rw [show locate { s with mmu := { s.mmu with ie := v } } x = locate s x from
      locate_congr rfl rfl rfl rfl rfl rfl rfl x]
    generalize locate s x = p at h
    cases p with
    | ie => exact absurd rfl h
    | _ => rfl

end Sys2Proof.Machine
end

