-- ==== Sys2Proof/Laws/Devices.lean ====
section
/-! SUPPORT. What the peripheral steps can do: each changes its own component and raw I/O slots, and nothing else. -/

namespace Sys2Proof.Machine

/-- Only the PPU, the timer and the I/O slots may differ, and the slots keep the canonical form. -/
structure OnlyDevices (s t : State) : Prop where
  eq : t = { s with ppu := t.ppu, timer := t.timer, mmu := { s.mmu with io := t.mmu.io } }
  ioWf : s.mmu.io.wf ioSize → t.mmu.io.wf ioSize

theorem OnlyDevices.refl (s : State) : OnlyDevices s s := ⟨rfl, id⟩

theorem OnlyDevices.trans {s t u : State} (h : OnlyDevices s t) (g : OnlyDevices t u) : OnlyDevices s u := by
  refine ⟨?_, fun hs => g.ioWf (h.ioWf hs)⟩
  rw [g.eq, h.eq]

theorem OnlyDevices.setSlot {k : Nat} (hk : k < ioSize) (v : Byte) (s : State) : OnlyDevices s (Machine.setSlot k v s) :=
  ⟨rfl, fun h => Memory.wf_store h hk v⟩

theorem OnlyDevices.setPpu (p : Ppu) (s : State) : OnlyDevices s { s with ppu := p } := ⟨rfl, id⟩

theorem OnlyDevices.setTimer (p : Timer) (s : State) : OnlyDevices s { s with timer := p } := ⟨rfl, id⟩

theorem OnlyDevices.cpu {s t : State} (h : OnlyDevices s t) : t.cpu = s.cpu := by rw [h.eq]
theorem OnlyDevices.config {s t : State} (h : OnlyDevices s t) : t.config = s.config := by rw [h.eq]
theorem OnlyDevices.cart {s t : State} (h : OnlyDevices s t) : t.cart = s.cart := by rw [h.eq]
theorem OnlyDevices.diag {s t : State} (h : OnlyDevices s t) : t.diag = s.diag := by rw [h.eq]
theorem OnlyDevices.stage {s t : State} (h : OnlyDevices s t) : t.stage = s.stage := by rw [h.eq]
theorem OnlyDevices.pressedMask {s t : State} (h : OnlyDevices s t) : t.pressedMask = s.pressedMask := by rw [h.eq]

/-! ### The PPU -/

theorem postInterrupt_only (bit : Nat) (s : State) : OnlyDevices s (postInterrupt bit s) :=
  OnlyDevices.setSlot (by decide) _ s

theorem synthStat_only (s : State) : OnlyDevices s (synthStat s) :=
  (OnlyDevices.setPpu { s.ppu with mode := if lcdOn s then modeAt s.ppu.ly s.ppu.dot else s.ppu.mode } s).trans
    (OnlyDevices.setSlot (by decide) _ _)

theorem enterVblank_only (s : State) : OnlyDevices s (enterVblank s) :=
  (OnlyDevices.setPpu { s.ppu with vblankLatched := true } s).trans (postInterrupt_only 0 _)

theorem OnlyDevices.ite {s a b : State} {p : Prop} [Decidable p] (ha : OnlyDevices s a) (hb : OnlyDevices s b) :
    OnlyDevices s (if p then a else b) := by
  by_cases h : p
  · rw [if_pos h]; exact ha
  · rw [if_neg h]; exact hb

theorem nextLine_only (s : State) : OnlyDevices s (nextLine s) := by
  unfold nextLine
  refine OnlyDevices.trans ?_ (OnlyDevices.setSlot (k := slotLy) (by decide) _ _)
  exact OnlyDevices.ite ((OnlyDevices.setPpu _ s).trans (enterVblank_only _)) (OnlyDevices.setPpu _ s)

theorem advanceLines_only (n : Nat) (s : State) : OnlyDevices s (advanceLines n s) := by
  induction n generalizing s with
  | zero => exact OnlyDevices.refl s
  | succ n ih => exact (nextLine_only s).trans (ih _)

/-- A PPU step changes the PPU and slots. -/
theorem ppuStep_only (c : Nat) (s : State) : OnlyDevices s (ppuStep c s) := by
  unfold ppuStep
  split
  · exact ((OnlyDevices.setPpu _ s).trans (advanceLines_only _ _)).trans (synthStat_only _)
  · exact ((OnlyDevices.setPpu _ s).trans (OnlyDevices.setSlot (by decide) _ _)).trans (synthStat_only _)

/-! ### The timer -/

theorem incrementDiv_only (s : State) : OnlyDevices s (incrementDiv s) :=
  (OnlyDevices.setTimer { s.timer with divAcc := s.timer.divAcc - divPeriod } s).trans (OnlyDevices.setSlot (by decide) _ _)

theorem advanceDiv_only (n : Nat) (s : State) : OnlyDevices s (advanceDiv n s) := by
  induction n generalizing s with
  | zero => exact OnlyDevices.refl s
  | succ n ih => exact (incrementDiv_only s).trans (ih _)

theorem incrementTima_only (period : Nat) (s : State) : OnlyDevices s (incrementTima period s) := by
  unfold incrementTima
  dsimp only
  split
  · refine OnlyDevices.trans ?_ (postInterrupt_only 2 _)
    refine OnlyDevices.trans ?_ (OnlyDevices.setSlot (k := slotTima) (by decide) _ _)
    exact OnlyDevices.setTimer _ s
  · refine OnlyDevices.trans ?_ (OnlyDevices.setSlot (k := slotTima) (by decide) _ _)
    exact OnlyDevices.setTimer _ s

theorem advanceTima_only (period n : Nat) (s : State) : OnlyDevices s (advanceTima period n s) := by
  induction n generalizing s with
  | zero => exact OnlyDevices.refl s
  | succ n ih => exact (incrementTima_only period s).trans (ih _)

/-- A timer step changes the timer and slots. -/
theorem timerStep_only (c : Nat) (s : State) : OnlyDevices s (timerStep c s) := by
  unfold timerStep timaStep
  have hd : OnlyDevices s (divStep c s) := (OnlyDevices.setTimer _ s).trans (advanceDiv_only _ _)
  dsimp only
  split
  · exact hd
  · exact hd.trans ((OnlyDevices.setTimer _ _).trans (advanceTima_only _ _ _))

/-! ### The joypad and the console -/

theorem updateRegister_only (s : State) : OnlyDevices s (updateRegister s) := OnlyDevices.setSlot (by decide) _ s

/-- What follows a CPU step changes the peripherals and slots. -/
theorem afterCpuStep_only (c : Nat) (s : State) : OnlyDevices s (afterCpuStep c s) := by
  unfold afterCpuStep
  split
  · exact ((ppuStep_only c s).trans (timerStep_only c _)).trans (updateRegister_only _)
  · exact OnlyDevices.refl s

end Sys2Proof.Machine
end

