-- ==== Sys2Proof/Laws/Ops.lean ====
section
/-! SUPPORT. One lemma for each shared operation of the CPU that says everything it does. -/

namespace Sys2Proof.Machine

/-! ### Bytes and words -/

@[simp] theorem loByte_wordOfBytes (lo hi : Byte) : loByte (wordOfBytes lo hi) = lo := by
  unfold loByte wordOfBytes
  apply BitVec.eq_of_toNat_eq
  simp only [BitVec.toNat_append, BitVec.extractLsb'_toNat, Nat.shiftRight_zero]
  rw [Nat.shiftLeft_eq, Nat.mul_comm, ← Nat.two_pow_add_eq_or_of_lt lo.isLt]
  have := lo.isLt
  omega

@[simp] theorem hiByte_wordOfBytes (lo hi : Byte) : hiByte (wordOfBytes lo hi) = hi := by
  unfold hiByte wordOfBytes
  apply BitVec.eq_of_toNat_eq
  simp only [BitVec.toNat_append, BitVec.extractLsb'_toNat]
  rw [Nat.shiftLeft_eq, Nat.mul_comm, ← Nat.two_pow_add_eq_or_of_lt lo.isLt, Nat.shiftRight_eq_div_pow]
  have := lo.isLt
  have := hi.isLt
  omega

@[simp] theorem wordOfBytes_bytes (v : Word) : wordOfBytes (loByte v) (hiByte v) = v := by
  unfold loByte hiByte wordOfBytes
  apply BitVec.eq_of_toNat_eq
  simp only [BitVec.toNat_append, BitVec.extractLsb'_toNat, Nat.shiftRight_zero]
  rw [Nat.shiftLeft_eq, Nat.mul_comm, ← Nat.two_pow_add_eq_or_of_lt (Nat.mod_lt _ (by decide)), Nat.shiftRight_eq_div_pow]
  have := v.isLt
  omega

/-! ### Fetching -/

theorem fetchRecords_zero (s : State) : fetchRecords 0 s = [] := rfl

/-- Fetching `n` bytes: the bytes from PC on, PC past them, their records emitted. -/
theorem fetchBytes_eq (n : Nat) (s : State) :
    fetchBytes n s = ((List.range n).map fun k => readByte s (s.cpu.pc + BitVec.ofNat 16 k), afterFetch n s) := by
  induction n generalizing s with
  | zero => simp [fetchBytes, afterFetch, fetchRecords, setPc]
  | succ n ih =>
    have hstep : ∀ k : Nat, s.cpu.pc + 1 + BitVec.ofNat 16 k = s.cpu.pc + BitVec.ofNat 16 (k + 1) := fun k => by
      rw [BitVec.add_assoc]; congr 1
      apply BitVec.eq_of_toNat_eq; simp; omega
    rw [fetchBytes]
    simp only [fetch8, memRead]
    rw [ih]
    congr 1
    · rw [List.range_succ_eq_map]
      simp only [List.map_cons, List.map_map, BitVec.ofNat_eq_ofNat, BitVec.add_zero]
      congr 1
      apply List.map_congr_left
      intro k _
      have h := hstep k
      simp only [Function.comp_apply, afterRead, emit_cpu, setPc_cpu_pc, readByte_setPc, readByte_emit]
      exact congrArg (readByte s) h
    · simp only [afterFetch, fetchRecords, afterRead, emit_cpu, setPc_cpu_pc, readDiag_setPc, readDiag_emit, hstep,
        setPc_emit, setPc_setPc, emit_emit]
      congr 1
      rw [List.range_succ_eq_map, List.flatMap_cons, List.flatMap_map]
      simp

/-- Fetching one byte. -/
theorem fetch8_eq (s : State) : fetch8 s = (readByte s s.cpu.pc, afterFetch 1 s) := by
  have h := fetchBytes_eq 1 s
  simp only [fetchBytes, fetch8, memRead] at h ⊢
  have := congrArg Prod.snd h
  simp only at this
  rw [this]

/-! ### The stack -/

/-- A push: two bytes stored, the high one at SP−1, then the low one at SP−2, and SP two lower (R211). -/
theorem push16_eq (v : Word) (s : State) :
    push16 v s =
      setSp (s.cpu.sp - 2) (memWrite (s.cpu.sp - 2) (loByte v) (memWrite (s.cpu.sp - 1) (hiByte v) s)) := by
  have h2 : s.cpu.sp - 1 - 1 = s.cpu.sp - 2 := by
    rw [BitVec.sub_sub]; rfl
  unfold push16
  simp only [setSp_cpu_sp, memWrite_setSp, setSp_setSp, h2]

/-- A pop: the low byte from SP, the high one from SP+1, and SP two higher (R212). -/
theorem pop16_eq (s : State) :
    pop16 s =
      (wordOfBytes (readByte s s.cpu.sp) (readByte s (s.cpu.sp + 1)),
        setSp (s.cpu.sp + 2) (emit (readDiag s s.cpu.sp ++ readDiag s (s.cpu.sp + 1)) s)) := by
  simp [pop16, memRead, afterRead]

/-- A call: a push of PC, then the jump (R325). -/
theorem callTo_eq (target : Word) (s : State) : callTo target s = setPc target (push16 s.cpu.pc s) := rfl

/-- A return: PC from the stack (R327). -/
theorem returnPop_eq (s : State) :
    returnPop s =
      setPc (wordOfBytes (readByte s s.cpu.sp) (readByte s (s.cpu.sp + 1)))
        (setSp (s.cpu.sp + 2) (emit (readDiag s s.cpu.sp ++ readDiag s (s.cpu.sp + 1)) s)) := by
  simp only [returnPop, pop16_eq]

/-! ### Interrupts -/

/-- Taking an interrupt, written out (R442). -/
theorem takeInterrupt_eq (n : Nat) (s : State) :
    takeInterrupt n s =
      setIme false false (setSlot slotIf (slot (push16 s.cpu.pc s) slotIf &&& ~~~(1#8 <<< n))
        (setPc (vector n) (push16 s.cpu.pc s))) := rfl

/-- The interrupt that is chosen is pending, no lower one is, and it is one of the five (R441). -/
theorem lowestBit_spec {p : Byte} (h : p &&& 0x1F ≠ 0) :
    lowestBit p < 5 ∧ p.getLsbD (lowestBit p) = true ∧ ∀ m, m < lowestBit p → p.getLsbD m = false := by
  revert h
  have key : ∀ q : Byte, q &&& 0x1F ≠ 0 →
      lowestBit q < 5 ∧ q.getLsbD (lowestBit q) = true ∧
        ∀ m : Fin 5, m.val < lowestBit q → q.getLsbD m.val = false := by
    decide
  intro h
  obtain ⟨h1, h2, h3⟩ := key p h
  exact ⟨h1, h2, fun m hm => h3 ⟨m, by omega⟩ hm⟩

end Sys2Proof.Machine
end

