-- ==== Sys2Proof/Laws/Exec.lean ====
section
/-! SUPPORT. The meaning of an instruction as a function of its form: `exec` answers the next state `execForm` gives, for every
constructor. A proof about all instructions is then a case analysis over the forms of the spec, not over the 512 rows. -/

namespace Sys2Proof.Machine

/-- The shared operation behind each form. A CB form is named by its second byte, which the diagnostic of R368 records. -/
def execForm (f : Form) (s : State) : State :=
  match f with
  | .ld dst src => ldReg dst src s
  | .ldImm dst v => ldImm dst v s
  | .ldPairImm p v => ldPairImm p v s
  | .storeInd m => storeInd m s
  | .loadInd m => loadInd m s
  | .pop p => popPair p s
  | .push p => pushPair p s
  | .storeAbs a => storeAbs a s
  | .loadAbs a => loadAbs a s
  | .storeHigh n => storeHigh n s
  | .loadHigh n => loadHigh n s
  | .storeHighC => storeHighC s
  | .loadHighC => loadHighC s
  | .storeSp a => storeSp a s
  | .ldSpHl => ldSpHl s
  | .aluReg op r => aluReg op r s
  | .aluImm op v => aluImm op v s
  | .incReg r => incReg r s
  | .decReg r => decReg r s
  | .daa => daa s
  | .cpl => cpl s
  | .scf => scf s
  | .ccf => ccf s
  | .rlca => rlca s
  | .rrca => rrca s
  | .rla => rla s
  | .rra => rra s
  | .incPair p => incPair p s
  | .decPair p => decPair p s
  | .addHl p => addHl p s
  | .addSp e => addSp e s
  | .ldHlSp e => ldHlSp e s
  | .jp a => jp a s
  | .jpCond cc a => jpCond cc a s
  | .jpHl => jpHl s
  | .jr e => jr e s
  | .jrCond cc e => jrCond cc e s
  | .call a => call a s
  | .callCond cc a => callCond cc a s
  | .ret => ret s
  | .retCond cc => retCond cc s
  | .reti => reti s
  | .rst y => rst y s
  | .nop => nop s
  | .halt => halt s
  | .stop => stop s
  | .di => di s
  | .ei => ei s
  | .illegal op => illegalOp op s
  | .prefixCb => prefixCb s
  | .rot op r => cbGate (byteXYZ 0 op.index r.index) (rotReg op r) s
  | .bit b r => cbGate (byteXYZ 1 b r.index) (bitReg b r) s
  | .res b r => cbGate (byteXYZ 2 b r.index) (resReg b r) s
  | .set b r => cbGate (byteXYZ 3 b r.index) (setReg b r) s

set_option maxRecDepth 10000 in
/-- Every instruction runs: `exec` answers a next state, the one its form gives (R430, R373). -/
theorem exec_eq_execForm (i : Instr) (s : State) : exec i s = .next (execForm i.form s) := by
  cases i <;> rfl

/-- So a next state of `exec` is that state. -/
theorem execForm_of_exec {i : Instr} {s t : State} (h : exec i s = .next t) : t = execForm i.form s := by
  rw [exec_eq_execForm] at h
  exact (Host.Outcome.next.inj h).symm

end Sys2Proof.Machine
end

