-- ==== Sys2Proof/Laws/PerInstr.lean ====
section
/-! SUPPORT. The family of per-instruction lemmas `EncodingLength`: the encoder writes as many bytes as the decoder's map gives
the first of them (R150: "the length is a function of the first byte alone"). -/

namespace Sys2Proof.Laws.EncodingLength

/-- An instruction's encoding is as long as its first byte says. The bare prefix cell is no whole instruction (R367). -/
def Statement (i : Instr) : Prop :=
  WellFormed i = true → ∃ op rest, encode i = op :: rest ∧ (encode i).length = lengthOf op

theorem nop : Statement .nop := fun _ => ⟨_, _, rfl, rfl⟩
theorem ldBC_d16 (v : Word) : Statement (.ldBC_d16 v) := fun _ => ⟨_, _, rfl, rfl⟩
theorem ldBCm_A : Statement .ldBCm_A := fun _ => ⟨_, _, rfl, rfl⟩
theorem incBC : Statement .incBC := fun _ => ⟨_, _, rfl, rfl⟩
theorem incB : Statement .incB := fun _ => ⟨_, _, rfl, rfl⟩
theorem decB : Statement .decB := fun _ => ⟨_, _, rfl, rfl⟩
theorem ldB_d8 (v : Byte) : Statement (.ldB_d8 v) := fun _ => ⟨_, _, rfl, rfl⟩
theorem rlca : Statement .rlca := fun _ => ⟨_, _, rfl, rfl⟩
theorem ldA16m_SP (a : Word) : Statement (.ldA16m_SP a) := fun _ => ⟨_, _, rfl, rfl⟩
theorem addHL_BC : Statement .addHL_BC := fun _ => ⟨_, _, rfl, rfl⟩
theorem ldA_BCm : Statement .ldA_BCm := fun _ => ⟨_, _, rfl, rfl⟩
theorem decBC : Statement .decBC := fun _ => ⟨_, _, rfl, rfl⟩
theorem incC : Statement .incC := fun _ => ⟨_, _, rfl, rfl⟩
theorem decC : Statement .decC := fun _ => ⟨_, _, rfl, rfl⟩
theorem ldC_d8 (v : Byte) : Statement (.ldC_d8 v) := fun _ => ⟨_, _, rfl, rfl⟩
theorem rrca : Statement .rrca := fun _ => ⟨_, _, rfl, rfl⟩
theorem stop : Statement .stop := fun _ => ⟨_, _, rfl, rfl⟩
theorem ldDE_d16 (v : Word) : Statement (.ldDE_d16 v) := fun _ => ⟨_, _, rfl, rfl⟩
theorem ldDEm_A : Statement .ldDEm_A := fun _ => ⟨_, _, rfl, rfl⟩
theorem incDE : Statement .incDE := fun _ => ⟨_, _, rfl, rfl⟩
theorem incD : Statement .incD := fun _ => ⟨_, _, rfl, rfl⟩
theorem decD : Statement .decD := fun _ => ⟨_, _, rfl, rfl⟩
theorem ldD_d8 (v : Byte) : Statement (.ldD_d8 v) := fun _ => ⟨_, _, rfl, rfl⟩
theorem rla : Statement .rla := fun _ => ⟨_, _, rfl, rfl⟩
theorem jr_e8 (e : Byte) : Statement (.jr_e8 e) := fun _ => ⟨_, _, rfl, rfl⟩
theorem addHL_DE : Statement .addHL_DE := fun _ => ⟨_, _, rfl, rfl⟩
theorem ldA_DEm : Statement .ldA_DEm := fun _ => ⟨_, _, rfl, rfl⟩
theorem decDE : Statement .decDE := fun _ => ⟨_, _, rfl, rfl⟩
theorem incE : Statement .incE := fun _ => ⟨_, _, rfl, rfl⟩
theorem decE : Statement .decE := fun _ => ⟨_, _, rfl, rfl⟩
theorem ldE_d8 (v : Byte) : Statement (.ldE_d8 v) := fun _ => ⟨_, _, rfl, rfl⟩
theorem rra : Statement .rra := fun _ => ⟨_, _, rfl, rfl⟩
theorem jrNZ_e8 (e : Byte) : Statement (.jrNZ_e8 e) := fun _ => ⟨_, _, rfl, rfl⟩
theorem ldHL_d16 (v : Word) : Statement (.ldHL_d16 v) := fun _ => ⟨_, _, rfl, rfl⟩
theorem ldHLinc_A : Statement .ldHLinc_A := fun _ => ⟨_, _, rfl, rfl⟩
theorem incHL : Statement .incHL := fun _ => ⟨_, _, rfl, rfl⟩
theorem incH : Statement .incH := fun _ => ⟨_, _, rfl, rfl⟩
theorem decH : Statement .decH := fun _ => ⟨_, _, rfl, rfl⟩
theorem ldH_d8 (v : Byte) : Statement (.ldH_d8 v) := fun _ => ⟨_, _, rfl, rfl⟩
theorem daa : Statement .daa := fun _ => ⟨_, _, rfl, rfl⟩
theorem jrZ_e8 (e : Byte) : Statement (.jrZ_e8 e) := fun _ => ⟨_, _, rfl, rfl⟩
theorem addHL_HL : Statement .addHL_HL := fun _ => ⟨_, _, rfl, rfl⟩
theorem ldA_HLinc : Statement .ldA_HLinc := fun _ => ⟨_, _, rfl, rfl⟩
theorem decHL : Statement .decHL := fun _ => ⟨_, _, rfl, rfl⟩
theorem incL : Statement .incL := fun _ => ⟨_, _, rfl, rfl⟩
theorem decL : Statement .decL := fun _ => ⟨_, _, rfl, rfl⟩
theorem ldL_d8 (v : Byte) : Statement (.ldL_d8 v) := fun _ => ⟨_, _, rfl, rfl⟩
theorem cpl : Statement .cpl := fun _ => ⟨_, _, rfl, rfl⟩
theorem jrNC_e8 (e : Byte) : Statement (.jrNC_e8 e) := fun _ => ⟨_, _, rfl, rfl⟩
theorem ldSP_d16 (v : Word) : Statement (.ldSP_d16 v) := fun _ => ⟨_, _, rfl, rfl⟩
theorem ldHLdec_A : Statement .ldHLdec_A := fun _ => ⟨_, _, rfl, rfl⟩
theorem incSP : Statement .incSP := fun _ => ⟨_, _, rfl, rfl⟩
theorem incHLm : Statement .incHLm := fun _ => ⟨_, _, rfl, rfl⟩
theorem decHLm : Statement .decHLm := fun _ => ⟨_, _, rfl, rfl⟩
theorem ldHLm_d8 (v : Byte) : Statement (.ldHLm_d8 v) := fun _ => ⟨_, _, rfl, rfl⟩
theorem scf : Statement .scf := fun _ => ⟨_, _, rfl, rfl⟩
theorem jrC_e8 (e : Byte) : Statement (.jrC_e8 e) := fun _ => ⟨_, _, rfl, rfl⟩
theorem addHL_SP : Statement .addHL_SP := fun _ => ⟨_, _, rfl, rfl⟩
theorem ldA_HLdec : Statement .ldA_HLdec := fun _ => ⟨_, _, rfl, rfl⟩
theorem decSP : Statement .decSP := fun _ => ⟨_, _, rfl, rfl⟩
theorem incA : Statement .incA := fun _ => ⟨_, _, rfl, rfl⟩
theorem decA : Statement .decA := fun _ => ⟨_, _, rfl, rfl⟩
theorem ldA_d8 (v : Byte) : Statement (.ldA_d8 v) := fun _ => ⟨_, _, rfl, rfl⟩
theorem ccf : Statement .ccf := fun _ => ⟨_, _, rfl, rfl⟩
theorem ldB_B : Statement .ldB_B := fun _ => ⟨_, _, rfl, rfl⟩
theorem ldB_C : Statement .ldB_C := fun _ => ⟨_, _, rfl, rfl⟩
theorem ldB_D : Statement .ldB_D := fun _ => ⟨_, _, rfl, rfl⟩
theorem ldB_E : Statement .ldB_E := fun _ => ⟨_, _, rfl, rfl⟩
theorem ldB_H : Statement .ldB_H := fun _ => ⟨_, _, rfl, rfl⟩
theorem ldB_L : Statement .ldB_L := fun _ => ⟨_, _, rfl, rfl⟩
theorem ldB_HLm : Statement .ldB_HLm := fun _ => ⟨_, _, rfl, rfl⟩
theorem ldB_A : Statement .ldB_A := fun _ => ⟨_, _, rfl, rfl⟩
theorem ldC_B : Statement .ldC_B := fun _ => ⟨_, _, rfl, rfl⟩
theorem ldC_C : Statement .ldC_C := fun _ => ⟨_, _, rfl, rfl⟩
theorem ldC_D : Statement .ldC_D := fun _ => ⟨_, _, rfl, rfl⟩
theorem ldC_E : Statement .ldC_E := fun _ => ⟨_, _, rfl, rfl⟩
theorem ldC_H : Statement .ldC_H := fun _ => ⟨_, _, rfl, rfl⟩
theorem ldC_L : Statement .ldC_L := fun _ => ⟨_, _, rfl, rfl⟩
theorem ldC_HLm : Statement .ldC_HLm := fun _ => ⟨_, _, rfl, rfl⟩
theorem ldC_A : Statement .ldC_A := fun _ => ⟨_, _, rfl, rfl⟩
theorem ldD_B : Statement .ldD_B := fun _ => ⟨_, _, rfl, rfl⟩
theorem ldD_C : Statement .ldD_C := fun _ => ⟨_, _, rfl, rfl⟩
theorem ldD_D : Statement .ldD_D := fun _ => ⟨_, _, rfl, rfl⟩
theorem ldD_E : Statement .ldD_E := fun _ => ⟨_, _, rfl, rfl⟩
theorem ldD_H : Statement .ldD_H := fun _ => ⟨_, _, rfl, rfl⟩
theorem ldD_L : Statement .ldD_L := fun _ => ⟨_, _, rfl, rfl⟩
theorem ldD_HLm : Statement .ldD_HLm := fun _ => ⟨_, _, rfl, rfl⟩
theorem ldD_A : Statement .ldD_A := fun _ => ⟨_, _, rfl, rfl⟩
theorem ldE_B : Statement .ldE_B := fun _ => ⟨_, _, rfl, rfl⟩
theorem ldE_C : Statement .ldE_C := fun _ => ⟨_, _, rfl, rfl⟩
theorem ldE_D : Statement .ldE_D := fun _ => ⟨_, _, rfl, rfl⟩
theorem ldE_E : Statement .ldE_E := fun _ => ⟨_, _, rfl, rfl⟩
theorem ldE_H : Statement .ldE_H := fun _ => ⟨_, _, rfl, rfl⟩
theorem ldE_L : Statement .ldE_L := fun _ => ⟨_, _, rfl, rfl⟩
theorem ldE_HLm : Statement .ldE_HLm := fun _ => ⟨_, _, rfl, rfl⟩
theorem ldE_A : Statement .ldE_A := fun _ => ⟨_, _, rfl, rfl⟩
theorem ldH_B : Statement .ldH_B := fun _ => ⟨_, _, rfl, rfl⟩
theorem ldH_C : Statement .ldH_C := fun _ => ⟨_, _, rfl, rfl⟩
theorem ldH_D : Statement .ldH_D := fun _ => ⟨_, _, rfl, rfl⟩
theorem ldH_E : Statement .ldH_E := fun _ => ⟨_, _, rfl, rfl⟩
theorem ldH_H : Statement .ldH_H := fun _ => ⟨_, _, rfl, rfl⟩
theorem ldH_L : Statement .ldH_L := fun _ => ⟨_, _, rfl, rfl⟩
theorem ldH_HLm : Statement .ldH_HLm := fun _ => ⟨_, _, rfl, rfl⟩
theorem ldH_A : Statement .ldH_A := fun _ => ⟨_, _, rfl, rfl⟩
theorem ldL_B : Statement .ldL_B := fun _ => ⟨_, _, rfl, rfl⟩
theorem ldL_C : Statement .ldL_C := fun _ => ⟨_, _, rfl, rfl⟩
theorem ldL_D : Statement .ldL_D := fun _ => ⟨_, _, rfl, rfl⟩
theorem ldL_E : Statement .ldL_E := fun _ => ⟨_, _, rfl, rfl⟩
theorem ldL_H : Statement .ldL_H := fun _ => ⟨_, _, rfl, rfl⟩
theorem ldL_L : Statement .ldL_L := fun _ => ⟨_, _, rfl, rfl⟩
theorem ldL_HLm : Statement .ldL_HLm := fun _ => ⟨_, _, rfl, rfl⟩
theorem ldL_A : Statement .ldL_A := fun _ => ⟨_, _, rfl, rfl⟩
theorem ldHLm_B : Statement .ldHLm_B := fun _ => ⟨_, _, rfl, rfl⟩
theorem ldHLm_C : Statement .ldHLm_C := fun _ => ⟨_, _, rfl, rfl⟩
theorem ldHLm_D : Statement .ldHLm_D := fun _ => ⟨_, _, rfl, rfl⟩
theorem ldHLm_E : Statement .ldHLm_E := fun _ => ⟨_, _, rfl, rfl⟩
theorem ldHLm_H : Statement .ldHLm_H := fun _ => ⟨_, _, rfl, rfl⟩
theorem ldHLm_L : Statement .ldHLm_L := fun _ => ⟨_, _, rfl, rfl⟩
theorem halt : Statement .halt := fun _ => ⟨_, _, rfl, rfl⟩
theorem ldHLm_A : Statement .ldHLm_A := fun _ => ⟨_, _, rfl, rfl⟩
theorem ldA_B : Statement .ldA_B := fun _ => ⟨_, _, rfl, rfl⟩
theorem ldA_C : Statement .ldA_C := fun _ => ⟨_, _, rfl, rfl⟩
theorem ldA_D : Statement .ldA_D := fun _ => ⟨_, _, rfl, rfl⟩
theorem ldA_E : Statement .ldA_E := fun _ => ⟨_, _, rfl, rfl⟩
theorem ldA_H : Statement .ldA_H := fun _ => ⟨_, _, rfl, rfl⟩
theorem ldA_L : Statement .ldA_L := fun _ => ⟨_, _, rfl, rfl⟩
theorem ldA_HLm : Statement .ldA_HLm := fun _ => ⟨_, _, rfl, rfl⟩
theorem ldA_A : Statement .ldA_A := fun _ => ⟨_, _, rfl, rfl⟩
theorem addA_B : Statement .addA_B := fun _ => ⟨_, _, rfl, rfl⟩
theorem addA_C : Statement .addA_C := fun _ => ⟨_, _, rfl, rfl⟩
theorem addA_D : Statement .addA_D := fun _ => ⟨_, _, rfl, rfl⟩
theorem addA_E : Statement .addA_E := fun _ => ⟨_, _, rfl, rfl⟩
theorem addA_H : Statement .addA_H := fun _ => ⟨_, _, rfl, rfl⟩
theorem addA_L : Statement .addA_L := fun _ => ⟨_, _, rfl, rfl⟩
theorem addA_HLm : Statement .addA_HLm := fun _ => ⟨_, _, rfl, rfl⟩
theorem addA_A : Statement .addA_A := fun _ => ⟨_, _, rfl, rfl⟩
theorem adcA_B : Statement .adcA_B := fun _ => ⟨_, _, rfl, rfl⟩
theorem adcA_C : Statement .adcA_C := fun _ => ⟨_, _, rfl, rfl⟩
theorem adcA_D : Statement .adcA_D := fun _ => ⟨_, _, rfl, rfl⟩
theorem adcA_E : Statement .adcA_E := fun _ => ⟨_, _, rfl, rfl⟩
theorem adcA_H : Statement .adcA_H := fun _ => ⟨_, _, rfl, rfl⟩
theorem adcA_L : Statement .adcA_L := fun _ => ⟨_, _, rfl, rfl⟩
theorem adcA_HLm : Statement .adcA_HLm := fun _ => ⟨_, _, rfl, rfl⟩
theorem adcA_A : Statement .adcA_A := fun _ => ⟨_, _, rfl, rfl⟩
theorem sub_B : Statement .sub_B := fun _ => ⟨_, _, rfl, rfl⟩
theorem sub_C : Statement .sub_C := fun _ => ⟨_, _, rfl, rfl⟩
theorem sub_D : Statement .sub_D := fun _ => ⟨_, _, rfl, rfl⟩
theorem sub_E : Statement .sub_E := fun _ => ⟨_, _, rfl, rfl⟩
theorem sub_H : Statement .sub_H := fun _ => ⟨_, _, rfl, rfl⟩
theorem sub_L : Statement .sub_L := fun _ => ⟨_, _, rfl, rfl⟩
theorem sub_HLm : Statement .sub_HLm := fun _ => ⟨_, _, rfl, rfl⟩
theorem sub_A : Statement .sub_A := fun _ => ⟨_, _, rfl, rfl⟩
theorem sbcA_B : Statement .sbcA_B := fun _ => ⟨_, _, rfl, rfl⟩
theorem sbcA_C : Statement .sbcA_C := fun _ => ⟨_, _, rfl, rfl⟩
theorem sbcA_D : Statement .sbcA_D := fun _ => ⟨_, _, rfl, rfl⟩
theorem sbcA_E : Statement .sbcA_E := fun _ => ⟨_, _, rfl, rfl⟩
theorem sbcA_H : Statement .sbcA_H := fun _ => ⟨_, _, rfl, rfl⟩
theorem sbcA_L : Statement .sbcA_L := fun _ => ⟨_, _, rfl, rfl⟩
theorem sbcA_HLm : Statement .sbcA_HLm := fun _ => ⟨_, _, rfl, rfl⟩
theorem sbcA_A : Statement .sbcA_A := fun _ => ⟨_, _, rfl, rfl⟩
theorem and_B : Statement .and_B := fun _ => ⟨_, _, rfl, rfl⟩
theorem and_C : Statement .and_C := fun _ => ⟨_, _, rfl, rfl⟩
theorem and_D : Statement .and_D := fun _ => ⟨_, _, rfl, rfl⟩
theorem and_E : Statement .and_E := fun _ => ⟨_, _, rfl, rfl⟩
theorem and_H : Statement .and_H := fun _ => ⟨_, _, rfl, rfl⟩
theorem and_L : Statement .and_L := fun _ => ⟨_, _, rfl, rfl⟩
theorem and_HLm : Statement .and_HLm := fun _ => ⟨_, _, rfl, rfl⟩
theorem and_A : Statement .and_A := fun _ => ⟨_, _, rfl, rfl⟩
theorem xor_B : Statement .xor_B := fun _ => ⟨_, _, rfl, rfl⟩
theorem xor_C : Statement .xor_C := fun _ => ⟨_, _, rfl, rfl⟩
theorem xor_D : Statement .xor_D := fun _ => ⟨_, _, rfl, rfl⟩
theorem xor_E : Statement .xor_E := fun _ => ⟨_, _, rfl, rfl⟩
theorem xor_H : Statement .xor_H := fun _ => ⟨_, _, rfl, rfl⟩
theorem xor_L : Statement .xor_L := fun _ => ⟨_, _, rfl, rfl⟩
theorem xor_HLm : Statement .xor_HLm := fun _ => ⟨_, _, rfl, rfl⟩
theorem xor_A : Statement .xor_A := fun _ => ⟨_, _, rfl, rfl⟩
theorem or_B : Statement .or_B := fun _ => ⟨_, _, rfl, rfl⟩
theorem or_C : Statement .or_C := fun _ => ⟨_, _, rfl, rfl⟩
theorem or_D : Statement .or_D := fun _ => ⟨_, _, rfl, rfl⟩
theorem or_E : Statement .or_E := fun _ => ⟨_, _, rfl, rfl⟩
theorem or_H : Statement .or_H := fun _ => ⟨_, _, rfl, rfl⟩
theorem or_L : Statement .or_L := fun _ => ⟨_, _, rfl, rfl⟩
theorem or_HLm : Statement .or_HLm := fun _ => ⟨_, _, rfl, rfl⟩
theorem or_A : Statement .or_A := fun _ => ⟨_, _, rfl, rfl⟩
theorem cp_B : Statement .cp_B := fun _ => ⟨_, _, rfl, rfl⟩
theorem cp_C : Statement .cp_C := fun _ => ⟨_, _, rfl, rfl⟩
theorem cp_D : Statement .cp_D := fun _ => ⟨_, _, rfl, rfl⟩
theorem cp_E : Statement .cp_E := fun _ => ⟨_, _, rfl, rfl⟩
theorem cp_H : Statement .cp_H := fun _ => ⟨_, _, rfl, rfl⟩
theorem cp_L : Statement .cp_L := fun _ => ⟨_, _, rfl, rfl⟩
theorem cp_HLm : Statement .cp_HLm := fun _ => ⟨_, _, rfl, rfl⟩
theorem cp_A : Statement .cp_A := fun _ => ⟨_, _, rfl, rfl⟩
theorem retNZ : Statement .retNZ := fun _ => ⟨_, _, rfl, rfl⟩
theorem popBC : Statement .popBC := fun _ => ⟨_, _, rfl, rfl⟩
theorem jpNZ_a16 (a : Word) : Statement (.jpNZ_a16 a) := fun _ => ⟨_, _, rfl, rfl⟩
theorem jp_a16 (a : Word) : Statement (.jp_a16 a) := fun _ => ⟨_, _, rfl, rfl⟩
theorem callNZ_a16 (a : Word) : Statement (.callNZ_a16 a) := fun _ => ⟨_, _, rfl, rfl⟩
theorem pushBC : Statement .pushBC := fun _ => ⟨_, _, rfl, rfl⟩
theorem addA_n8 (v : Byte) : Statement (.addA_n8 v) := fun _ => ⟨_, _, rfl, rfl⟩
theorem rst00 : Statement .rst00 := fun _ => ⟨_, _, rfl, rfl⟩
theorem retZ : Statement .retZ := fun _ => ⟨_, _, rfl, rfl⟩
theorem ret : Statement .ret := fun _ => ⟨_, _, rfl, rfl⟩
theorem jpZ_a16 (a : Word) : Statement (.jpZ_a16 a) := fun _ => ⟨_, _, rfl, rfl⟩
theorem prefixCb : Statement .prefixCb := fun h => absurd h (by decide)
theorem callZ_a16 (a : Word) : Statement (.callZ_a16 a) := fun _ => ⟨_, _, rfl, rfl⟩
theorem call_a16 (a : Word) : Statement (.call_a16 a) := fun _ => ⟨_, _, rfl, rfl⟩
theorem adcA_n8 (v : Byte) : Statement (.adcA_n8 v) := fun _ => ⟨_, _, rfl, rfl⟩
theorem rst08 : Statement .rst08 := fun _ => ⟨_, _, rfl, rfl⟩
theorem retNC : Statement .retNC := fun _ => ⟨_, _, rfl, rfl⟩
theorem popDE : Statement .popDE := fun _ => ⟨_, _, rfl, rfl⟩
theorem jpNC_a16 (a : Word) : Statement (.jpNC_a16 a) := fun _ => ⟨_, _, rfl, rfl⟩
theorem illegalD3 : Statement .illegalD3 := fun _ => ⟨_, _, rfl, rfl⟩
theorem callNC_a16 (a : Word) : Statement (.callNC_a16 a) := fun _ => ⟨_, _, rfl, rfl⟩
theorem pushDE : Statement .pushDE := fun _ => ⟨_, _, rfl, rfl⟩
theorem sub_n8 (v : Byte) : Statement (.sub_n8 v) := fun _ => ⟨_, _, rfl, rfl⟩
theorem rst10 : Statement .rst10 := fun _ => ⟨_, _, rfl, rfl⟩
theorem retC : Statement .retC := fun _ => ⟨_, _, rfl, rfl⟩
theorem reti : Statement .reti := fun _ => ⟨_, _, rfl, rfl⟩
theorem jpC_a16 (a : Word) : Statement (.jpC_a16 a) := fun _ => ⟨_, _, rfl, rfl⟩
theorem illegalDB : Statement .illegalDB := fun _ => ⟨_, _, rfl, rfl⟩
theorem callC_a16 (a : Word) : Statement (.callC_a16 a) := fun _ => ⟨_, _, rfl, rfl⟩
theorem illegalDD : Statement .illegalDD := fun _ => ⟨_, _, rfl, rfl⟩
theorem sbcA_n8 (v : Byte) : Statement (.sbcA_n8 v) := fun _ => ⟨_, _, rfl, rfl⟩
theorem rst18 : Statement .rst18 := fun _ => ⟨_, _, rfl, rfl⟩
theorem ldhN8m_A (n : Byte) : Statement (.ldhN8m_A n) := fun _ => ⟨_, _, rfl, rfl⟩
theorem popHL : Statement .popHL := fun _ => ⟨_, _, rfl, rfl⟩
theorem ldCm_A : Statement .ldCm_A := fun _ => ⟨_, _, rfl, rfl⟩
theorem illegalE3 : Statement .illegalE3 := fun _ => ⟨_, _, rfl, rfl⟩
theorem illegalE4 : Statement .illegalE4 := fun _ => ⟨_, _, rfl, rfl⟩
theorem pushHL : Statement .pushHL := fun _ => ⟨_, _, rfl, rfl⟩
theorem and_n8 (v : Byte) : Statement (.and_n8 v) := fun _ => ⟨_, _, rfl, rfl⟩
theorem rst20 : Statement .rst20 := fun _ => ⟨_, _, rfl, rfl⟩
theorem addSP_e8 (e : Byte) : Statement (.addSP_e8 e) := fun _ => ⟨_, _, rfl, rfl⟩
theorem jpHL : Statement .jpHL := fun _ => ⟨_, _, rfl, rfl⟩
theorem ldA16m_A (a : Word) : Statement (.ldA16m_A a) := fun _ => ⟨_, _, rfl, rfl⟩
theorem illegalEB : Statement .illegalEB := fun _ => ⟨_, _, rfl, rfl⟩
theorem illegalEC : Statement .illegalEC := fun _ => ⟨_, _, rfl, rfl⟩
theorem illegalED : Statement .illegalED := fun _ => ⟨_, _, rfl, rfl⟩
theorem xor_n8 (v : Byte) : Statement (.xor_n8 v) := fun _ => ⟨_, _, rfl, rfl⟩
theorem rst28 : Statement .rst28 := fun _ => ⟨_, _, rfl, rfl⟩
theorem ldhA_N8m (n : Byte) : Statement (.ldhA_N8m n) := fun _ => ⟨_, _, rfl, rfl⟩
theorem popAF : Statement .popAF := fun _ => ⟨_, _, rfl, rfl⟩
theorem ldA_Cm : Statement .ldA_Cm := fun _ => ⟨_, _, rfl, rfl⟩
theorem di : Statement .di := fun _ => ⟨_, _, rfl, rfl⟩
theorem illegalF4 : Statement .illegalF4 := fun _ => ⟨_, _, rfl, rfl⟩
theorem pushAF : Statement .pushAF := fun _ => ⟨_, _, rfl, rfl⟩
theorem or_n8 (v : Byte) : Statement (.or_n8 v) := fun _ => ⟨_, _, rfl, rfl⟩
theorem rst30 : Statement .rst30 := fun _ => ⟨_, _, rfl, rfl⟩
theorem ldHL_SPe8 (e : Byte) : Statement (.ldHL_SPe8 e) := fun _ => ⟨_, _, rfl, rfl⟩
theorem ldSP_HL : Statement .ldSP_HL := fun _ => ⟨_, _, rfl, rfl⟩
theorem ldA_A16m (a : Word) : Statement (.ldA_A16m a) := fun _ => ⟨_, _, rfl, rfl⟩
theorem ei : Statement .ei := fun _ => ⟨_, _, rfl, rfl⟩
theorem illegalFC : Statement .illegalFC := fun _ => ⟨_, _, rfl, rfl⟩
theorem illegalFD : Statement .illegalFD := fun _ => ⟨_, _, rfl, rfl⟩
theorem cp_n8 (v : Byte) : Statement (.cp_n8 v) := fun _ => ⟨_, _, rfl, rfl⟩
theorem rst38 : Statement .rst38 := fun _ => ⟨_, _, rfl, rfl⟩
theorem rlc_B : Statement .rlc_B := fun _ => ⟨_, _, rfl, rfl⟩
theorem rlc_C : Statement .rlc_C := fun _ => ⟨_, _, rfl, rfl⟩
theorem rlc_D : Statement .rlc_D := fun _ => ⟨_, _, rfl, rfl⟩
theorem rlc_E : Statement .rlc_E := fun _ => ⟨_, _, rfl, rfl⟩
theorem rlc_H : Statement .rlc_H := fun _ => ⟨_, _, rfl, rfl⟩
theorem rlc_L : Statement .rlc_L := fun _ => ⟨_, _, rfl, rfl⟩
theorem rlc_HLm : Statement .rlc_HLm := fun _ => ⟨_, _, rfl, rfl⟩
theorem rlc_A : Statement .rlc_A := fun _ => ⟨_, _, rfl, rfl⟩
theorem rrc_B : Statement .rrc_B := fun _ => ⟨_, _, rfl, rfl⟩
theorem rrc_C : Statement .rrc_C := fun _ => ⟨_, _, rfl, rfl⟩
theorem rrc_D : Statement .rrc_D := fun _ => ⟨_, _, rfl, rfl⟩
theorem rrc_E : Statement .rrc_E := fun _ => ⟨_, _, rfl, rfl⟩
theorem rrc_H : Statement .rrc_H := fun _ => ⟨_, _, rfl, rfl⟩
theorem rrc_L : Statement .rrc_L := fun _ => ⟨_, _, rfl, rfl⟩
theorem rrc_HLm : Statement .rrc_HLm := fun _ => ⟨_, _, rfl, rfl⟩
theorem rrc_A : Statement .rrc_A := fun _ => ⟨_, _, rfl, rfl⟩
theorem rl_B : Statement .rl_B := fun _ => ⟨_, _, rfl, rfl⟩
theorem rl_C : Statement .rl_C := fun _ => ⟨_, _, rfl, rfl⟩
theorem rl_D : Statement .rl_D := fun _ => ⟨_, _, rfl, rfl⟩
theorem rl_E : Statement .rl_E := fun _ => ⟨_, _, rfl, rfl⟩
theorem rl_H : Statement .rl_H := fun _ => ⟨_, _, rfl, rfl⟩
theorem rl_L : Statement .rl_L := fun _ => ⟨_, _, rfl, rfl⟩
theorem rl_HLm : Statement .rl_HLm := fun _ => ⟨_, _, rfl, rfl⟩
theorem rl_A : Statement .rl_A := fun _ => ⟨_, _, rfl, rfl⟩
theorem rr_B : Statement .rr_B := fun _ => ⟨_, _, rfl, rfl⟩
theorem rr_C : Statement .rr_C := fun _ => ⟨_, _, rfl, rfl⟩
theorem rr_D : Statement .rr_D := fun _ => ⟨_, _, rfl, rfl⟩
theorem rr_E : Statement .rr_E := fun _ => ⟨_, _, rfl, rfl⟩
theorem rr_H : Statement .rr_H := fun _ => ⟨_, _, rfl, rfl⟩
theorem rr_L : Statement .rr_L := fun _ => ⟨_, _, rfl, rfl⟩
theorem rr_HLm : Statement .rr_HLm := fun _ => ⟨_, _, rfl, rfl⟩
theorem rr_A : Statement .rr_A := fun _ => ⟨_, _, rfl, rfl⟩
theorem sla_B : Statement .sla_B := fun _ => ⟨_, _, rfl, rfl⟩
theorem sla_C : Statement .sla_C := fun _ => ⟨_, _, rfl, rfl⟩
theorem sla_D : Statement .sla_D := fun _ => ⟨_, _, rfl, rfl⟩
theorem sla_E : Statement .sla_E := fun _ => ⟨_, _, rfl, rfl⟩
theorem sla_H : Statement .sla_H := fun _ => ⟨_, _, rfl, rfl⟩
theorem sla_L : Statement .sla_L := fun _ => ⟨_, _, rfl, rfl⟩
theorem sla_HLm : Statement .sla_HLm := fun _ => ⟨_, _, rfl, rfl⟩
theorem sla_A : Statement .sla_A := fun _ => ⟨_, _, rfl, rfl⟩
theorem sra_B : Statement .sra_B := fun _ => ⟨_, _, rfl, rfl⟩
theorem sra_C : Statement .sra_C := fun _ => ⟨_, _, rfl, rfl⟩
theorem sra_D : Statement .sra_D := fun _ => ⟨_, _, rfl, rfl⟩
theorem sra_E : Statement .sra_E := fun _ => ⟨_, _, rfl, rfl⟩
theorem sra_H : Statement .sra_H := fun _ => ⟨_, _, rfl, rfl⟩
theorem sra_L : Statement .sra_L := fun _ => ⟨_, _, rfl, rfl⟩
theorem sra_HLm : Statement .sra_HLm := fun _ => ⟨_, _, rfl, rfl⟩
theorem sra_A : Statement .sra_A := fun _ => ⟨_, _, rfl, rfl⟩
theorem swap_B : Statement .swap_B := fun _ => ⟨_, _, rfl, rfl⟩
theorem swap_C : Statement .swap_C := fun _ => ⟨_, _, rfl, rfl⟩
theorem swap_D : Statement .swap_D := fun _ => ⟨_, _, rfl, rfl⟩
theorem swap_E : Statement .swap_E := fun _ => ⟨_, _, rfl, rfl⟩
theorem swap_H : Statement .swap_H := fun _ => ⟨_, _, rfl, rfl⟩
theorem swap_L : Statement .swap_L := fun _ => ⟨_, _, rfl, rfl⟩
theorem swap_HLm : Statement .swap_HLm := fun _ => ⟨_, _, rfl, rfl⟩
theorem swap_A : Statement .swap_A := fun _ => ⟨_, _, rfl, rfl⟩
theorem srl_B : Statement .srl_B := fun _ => ⟨_, _, rfl, rfl⟩
theorem srl_C : Statement .srl_C := fun _ => ⟨_, _, rfl, rfl⟩
theorem srl_D : Statement .srl_D := fun _ => ⟨_, _, rfl, rfl⟩
theorem srl_E : Statement .srl_E := fun _ => ⟨_, _, rfl, rfl⟩
theorem srl_H : Statement .srl_H := fun _ => ⟨_, _, rfl, rfl⟩
theorem srl_L : Statement .srl_L := fun _ => ⟨_, _, rfl, rfl⟩
theorem srl_HLm : Statement .srl_HLm := fun _ => ⟨_, _, rfl, rfl⟩
theorem srl_A : Statement .srl_A := fun _ => ⟨_, _, rfl, rfl⟩
theorem bit0_B : Statement .bit0_B := fun _ => ⟨_, _, rfl, rfl⟩
theorem bit0_C : Statement .bit0_C := fun _ => ⟨_, _, rfl, rfl⟩
theorem bit0_D : Statement .bit0_D := fun _ => ⟨_, _, rfl, rfl⟩
theorem bit0_E : Statement .bit0_E := fun _ => ⟨_, _, rfl, rfl⟩
theorem bit0_H : Statement .bit0_H := fun _ => ⟨_, _, rfl, rfl⟩
theorem bit0_L : Statement .bit0_L := fun _ => ⟨_, _, rfl, rfl⟩
theorem bit0_HLm : Statement .bit0_HLm := fun _ => ⟨_, _, rfl, rfl⟩
theorem bit0_A : Statement .bit0_A := fun _ => ⟨_, _, rfl, rfl⟩
theorem bit1_B : Statement .bit1_B := fun _ => ⟨_, _, rfl, rfl⟩
theorem bit1_C : Statement .bit1_C := fun _ => ⟨_, _, rfl, rfl⟩
theorem bit1_D : Statement .bit1_D := fun _ => ⟨_, _, rfl, rfl⟩
theorem bit1_E : Statement .bit1_E := fun _ => ⟨_, _, rfl, rfl⟩
theorem bit1_H : Statement .bit1_H := fun _ => ⟨_, _, rfl, rfl⟩
theorem bit1_L : Statement .bit1_L := fun _ => ⟨_, _, rfl, rfl⟩
theorem bit1_HLm : Statement .bit1_HLm := fun _ => ⟨_, _, rfl, rfl⟩
theorem bit1_A : Statement .bit1_A := fun _ => ⟨_, _, rfl, rfl⟩
theorem bit2_B : Statement .bit2_B := fun _ => ⟨_, _, rfl, rfl⟩
theorem bit2_C : Statement .bit2_C := fun _ => ⟨_, _, rfl, rfl⟩
theorem bit2_D : Statement .bit2_D := fun _ => ⟨_, _, rfl, rfl⟩
theorem bit2_E : Statement .bit2_E := fun _ => ⟨_, _, rfl, rfl⟩
theorem bit2_H : Statement .bit2_H := fun _ => ⟨_, _, rfl, rfl⟩
theorem bit2_L : Statement .bit2_L := fun _ => ⟨_, _, rfl, rfl⟩
theorem bit2_HLm : Statement .bit2_HLm := fun _ => ⟨_, _, rfl, rfl⟩
theorem bit2_A : Statement .bit2_A := fun _ => ⟨_, _, rfl, rfl⟩
theorem bit3_B : Statement .bit3_B := fun _ => ⟨_, _, rfl, rfl⟩
theorem bit3_C : Statement .bit3_C := fun _ => ⟨_, _, rfl, rfl⟩
theorem bit3_D : Statement .bit3_D := fun _ => ⟨_, _, rfl, rfl⟩
theorem bit3_E : Statement .bit3_E := fun _ => ⟨_, _, rfl, rfl⟩
theorem bit3_H : Statement .bit3_H := fun _ => ⟨_, _, rfl, rfl⟩
theorem bit3_L : Statement .bit3_L := fun _ => ⟨_, _, rfl, rfl⟩
theorem bit3_HLm : Statement .bit3_HLm := fun _ => ⟨_, _, rfl, rfl⟩
theorem bit3_A : Statement .bit3_A := fun _ => ⟨_, _, rfl, rfl⟩
theorem bit4_B : Statement .bit4_B := fun _ => ⟨_, _, rfl, rfl⟩
theorem bit4_C : Statement .bit4_C := fun _ => ⟨_, _, rfl, rfl⟩
theorem bit4_D : Statement .bit4_D := fun _ => ⟨_, _, rfl, rfl⟩
theorem bit4_E : Statement .bit4_E := fun _ => ⟨_, _, rfl, rfl⟩
theorem bit4_H : Statement .bit4_H := fun _ => ⟨_, _, rfl, rfl⟩
theorem bit4_L : Statement .bit4_L := fun _ => ⟨_, _, rfl, rfl⟩
theorem bit4_HLm : Statement .bit4_HLm := fun _ => ⟨_, _, rfl, rfl⟩
theorem bit4_A : Statement .bit4_A := fun _ => ⟨_, _, rfl, rfl⟩
theorem bit5_B : Statement .bit5_B := fun _ => ⟨_, _, rfl, rfl⟩
theorem bit5_C : Statement .bit5_C := fun _ => ⟨_, _, rfl, rfl⟩
theorem bit5_D : Statement .bit5_D := fun _ => ⟨_, _, rfl, rfl⟩
theorem bit5_E : Statement .bit5_E := fun _ => ⟨_, _, rfl, rfl⟩
theorem bit5_H : Statement .bit5_H := fun _ => ⟨_, _, rfl, rfl⟩
theorem bit5_L : Statement .bit5_L := fun _ => ⟨_, _, rfl, rfl⟩
theorem bit5_HLm : Statement .bit5_HLm := fun _ => ⟨_, _, rfl, rfl⟩
theorem bit5_A : Statement .bit5_A := fun _ => ⟨_, _, rfl, rfl⟩
theorem bit6_B : Statement .bit6_B := fun _ => ⟨_, _, rfl, rfl⟩
theorem bit6_C : Statement .bit6_C := fun _ => ⟨_, _, rfl, rfl⟩
theorem bit6_D : Statement .bit6_D := fun _ => ⟨_, _, rfl, rfl⟩
theorem bit6_E : Statement .bit6_E := fun _ => ⟨_, _, rfl, rfl⟩
theorem bit6_H : Statement .bit6_H := fun _ => ⟨_, _, rfl, rfl⟩
theorem bit6_L : Statement .bit6_L := fun _ => ⟨_, _, rfl, rfl⟩
theorem bit6_HLm : Statement .bit6_HLm := fun _ => ⟨_, _, rfl, rfl⟩
theorem bit6_A : Statement .bit6_A := fun _ => ⟨_, _, rfl, rfl⟩
theorem bit7_B : Statement .bit7_B := fun _ => ⟨_, _, rfl, rfl⟩
theorem bit7_C : Statement .bit7_C := fun _ => ⟨_, _, rfl, rfl⟩
theorem bit7_D : Statement .bit7_D := fun _ => ⟨_, _, rfl, rfl⟩
theorem bit7_E : Statement .bit7_E := fun _ => ⟨_, _, rfl, rfl⟩
theorem bit7_H : Statement .bit7_H := fun _ => ⟨_, _, rfl, rfl⟩
theorem bit7_L : Statement .bit7_L := fun _ => ⟨_, _, rfl, rfl⟩
theorem bit7_HLm : Statement .bit7_HLm := fun _ => ⟨_, _, rfl, rfl⟩
theorem bit7_A : Statement .bit7_A := fun _ => ⟨_, _, rfl, rfl⟩
theorem res0_B : Statement .res0_B := fun _ => ⟨_, _, rfl, rfl⟩
theorem res0_C : Statement .res0_C := fun _ => ⟨_, _, rfl, rfl⟩
theorem res0_D : Statement .res0_D := fun _ => ⟨_, _, rfl, rfl⟩
theorem res0_E : Statement .res0_E := fun _ => ⟨_, _, rfl, rfl⟩
theorem res0_H : Statement .res0_H := fun _ => ⟨_, _, rfl, rfl⟩
theorem res0_L : Statement .res0_L := fun _ => ⟨_, _, rfl, rfl⟩
theorem res0_HLm : Statement .res0_HLm := fun _ => ⟨_, _, rfl, rfl⟩
theorem res0_A : Statement .res0_A := fun _ => ⟨_, _, rfl, rfl⟩
theorem res1_B : Statement .res1_B := fun _ => ⟨_, _, rfl, rfl⟩
theorem res1_C : Statement .res1_C := fun _ => ⟨_, _, rfl, rfl⟩
theorem res1_D : Statement .res1_D := fun _ => ⟨_, _, rfl, rfl⟩
theorem res1_E : Statement .res1_E := fun _ => ⟨_, _, rfl, rfl⟩
theorem res1_H : Statement .res1_H := fun _ => ⟨_, _, rfl, rfl⟩
theorem res1_L : Statement .res1_L := fun _ => ⟨_, _, rfl, rfl⟩
theorem res1_HLm : Statement .res1_HLm := fun _ => ⟨_, _, rfl, rfl⟩
theorem res1_A : Statement .res1_A := fun _ => ⟨_, _, rfl, rfl⟩
theorem res2_B : Statement .res2_B := fun _ => ⟨_, _, rfl, rfl⟩
theorem res2_C : Statement .res2_C := fun _ => ⟨_, _, rfl, rfl⟩
theorem res2_D : Statement .res2_D := fun _ => ⟨_, _, rfl, rfl⟩
theorem res2_E : Statement .res2_E := fun _ => ⟨_, _, rfl, rfl⟩
theorem res2_H : Statement .res2_H := fun _ => ⟨_, _, rfl, rfl⟩
theorem res2_L : Statement .res2_L := fun _ => ⟨_, _, rfl, rfl⟩
theorem res2_HLm : Statement .res2_HLm := fun _ => ⟨_, _, rfl, rfl⟩
theorem res2_A : Statement .res2_A := fun _ => ⟨_, _, rfl, rfl⟩
theorem res3_B : Statement .res3_B := fun _ => ⟨_, _, rfl, rfl⟩
theorem res3_C : Statement .res3_C := fun _ => ⟨_, _, rfl, rfl⟩
theorem res3_D : Statement .res3_D := fun _ => ⟨_, _, rfl, rfl⟩
theorem res3_E : Statement .res3_E := fun _ => ⟨_, _, rfl, rfl⟩
theorem res3_H : Statement .res3_H := fun _ => ⟨_, _, rfl, rfl⟩
theorem res3_L : Statement .res3_L := fun _ => ⟨_, _, rfl, rfl⟩
theorem res3_HLm : Statement .res3_HLm := fun _ => ⟨_, _, rfl, rfl⟩
theorem res3_A : Statement .res3_A := fun _ => ⟨_, _, rfl, rfl⟩
theorem res4_B : Statement .res4_B := fun _ => ⟨_, _, rfl, rfl⟩
theorem res4_C : Statement .res4_C := fun _ => ⟨_, _, rfl, rfl⟩
theorem res4_D : Statement .res4_D := fun _ => ⟨_, _, rfl, rfl⟩
theorem res4_E : Statement .res4_E := fun _ => ⟨_, _, rfl, rfl⟩
theorem res4_H : Statement .res4_H := fun _ => ⟨_, _, rfl, rfl⟩
theorem res4_L : Statement .res4_L := fun _ => ⟨_, _, rfl, rfl⟩
theorem res4_HLm : Statement .res4_HLm := fun _ => ⟨_, _, rfl, rfl⟩
theorem res4_A : Statement .res4_A := fun _ => ⟨_, _, rfl, rfl⟩
theorem res5_B : Statement .res5_B := fun _ => ⟨_, _, rfl, rfl⟩
theorem res5_C : Statement .res5_C := fun _ => ⟨_, _, rfl, rfl⟩
theorem res5_D : Statement .res5_D := fun _ => ⟨_, _, rfl, rfl⟩
theorem res5_E : Statement .res5_E := fun _ => ⟨_, _, rfl, rfl⟩
theorem res5_H : Statement .res5_H := fun _ => ⟨_, _, rfl, rfl⟩
theorem res5_L : Statement .res5_L := fun _ => ⟨_, _, rfl, rfl⟩
theorem res5_HLm : Statement .res5_HLm := fun _ => ⟨_, _, rfl, rfl⟩
theorem res5_A : Statement .res5_A := fun _ => ⟨_, _, rfl, rfl⟩
theorem res6_B : Statement .res6_B := fun _ => ⟨_, _, rfl, rfl⟩
theorem res6_C : Statement .res6_C := fun _ => ⟨_, _, rfl, rfl⟩
theorem res6_D : Statement .res6_D := fun _ => ⟨_, _, rfl, rfl⟩
theorem res6_E : Statement .res6_E := fun _ => ⟨_, _, rfl, rfl⟩
theorem res6_H : Statement .res6_H := fun _ => ⟨_, _, rfl, rfl⟩
theorem res6_L : Statement .res6_L := fun _ => ⟨_, _, rfl, rfl⟩
theorem res6_HLm : Statement .res6_HLm := fun _ => ⟨_, _, rfl, rfl⟩
theorem res6_A : Statement .res6_A := fun _ => ⟨_, _, rfl, rfl⟩
theorem res7_B : Statement .res7_B := fun _ => ⟨_, _, rfl, rfl⟩
theorem res7_C : Statement .res7_C := fun _ => ⟨_, _, rfl, rfl⟩
theorem res7_D : Statement .res7_D := fun _ => ⟨_, _, rfl, rfl⟩
theorem res7_E : Statement .res7_E := fun _ => ⟨_, _, rfl, rfl⟩
theorem res7_H : Statement .res7_H := fun _ => ⟨_, _, rfl, rfl⟩
theorem res7_L : Statement .res7_L := fun _ => ⟨_, _, rfl, rfl⟩
theorem res7_HLm : Statement .res7_HLm := fun _ => ⟨_, _, rfl, rfl⟩
theorem res7_A : Statement .res7_A := fun _ => ⟨_, _, rfl, rfl⟩
theorem set0_B : Statement .set0_B := fun _ => ⟨_, _, rfl, rfl⟩
theorem set0_C : Statement .set0_C := fun _ => ⟨_, _, rfl, rfl⟩
theorem set0_D : Statement .set0_D := fun _ => ⟨_, _, rfl, rfl⟩
theorem set0_E : Statement .set0_E := fun _ => ⟨_, _, rfl, rfl⟩
theorem set0_H : Statement .set0_H := fun _ => ⟨_, _, rfl, rfl⟩
theorem set0_L : Statement .set0_L := fun _ => ⟨_, _, rfl, rfl⟩
theorem set0_HLm : Statement .set0_HLm := fun _ => ⟨_, _, rfl, rfl⟩
theorem set0_A : Statement .set0_A := fun _ => ⟨_, _, rfl, rfl⟩
theorem set1_B : Statement .set1_B := fun _ => ⟨_, _, rfl, rfl⟩
theorem set1_C : Statement .set1_C := fun _ => ⟨_, _, rfl, rfl⟩
theorem set1_D : Statement .set1_D := fun _ => ⟨_, _, rfl, rfl⟩
theorem set1_E : Statement .set1_E := fun _ => ⟨_, _, rfl, rfl⟩
theorem set1_H : Statement .set1_H := fun _ => ⟨_, _, rfl, rfl⟩
theorem set1_L : Statement .set1_L := fun _ => ⟨_, _, rfl, rfl⟩
theorem set1_HLm : Statement .set1_HLm := fun _ => ⟨_, _, rfl, rfl⟩
theorem set1_A : Statement .set1_A := fun _ => ⟨_, _, rfl, rfl⟩
theorem set2_B : Statement .set2_B := fun _ => ⟨_, _, rfl, rfl⟩
theorem set2_C : Statement .set2_C := fun _ => ⟨_, _, rfl, rfl⟩
theorem set2_D : Statement .set2_D := fun _ => ⟨_, _, rfl, rfl⟩
theorem set2_E : Statement .set2_E := fun _ => ⟨_, _, rfl, rfl⟩
theorem set2_H : Statement .set2_H := fun _ => ⟨_, _, rfl, rfl⟩
theorem set2_L : Statement .set2_L := fun _ => ⟨_, _, rfl, rfl⟩
theorem set2_HLm : Statement .set2_HLm := fun _ => ⟨_, _, rfl, rfl⟩
theorem set2_A : Statement .set2_A := fun _ => ⟨_, _, rfl, rfl⟩
theorem set3_B : Statement .set3_B := fun _ => ⟨_, _, rfl, rfl⟩
theorem set3_C : Statement .set3_C := fun _ => ⟨_, _, rfl, rfl⟩
theorem set3_D : Statement .set3_D := fun _ => ⟨_, _, rfl, rfl⟩
theorem set3_E : Statement .set3_E := fun _ => ⟨_, _, rfl, rfl⟩
theorem set3_H : Statement .set3_H := fun _ => ⟨_, _, rfl, rfl⟩
theorem set3_L : Statement .set3_L := fun _ => ⟨_, _, rfl, rfl⟩
theorem set3_HLm : Statement .set3_HLm := fun _ => ⟨_, _, rfl, rfl⟩
theorem set3_A : Statement .set3_A := fun _ => ⟨_, _, rfl, rfl⟩
theorem set4_B : Statement .set4_B := fun _ => ⟨_, _, rfl, rfl⟩
theorem set4_C : Statement .set4_C := fun _ => ⟨_, _, rfl, rfl⟩
theorem set4_D : Statement .set4_D := fun _ => ⟨_, _, rfl, rfl⟩
theorem set4_E : Statement .set4_E := fun _ => ⟨_, _, rfl, rfl⟩
theorem set4_H : Statement .set4_H := fun _ => ⟨_, _, rfl, rfl⟩
theorem set4_L : Statement .set4_L := fun _ => ⟨_, _, rfl, rfl⟩
theorem set4_HLm : Statement .set4_HLm := fun _ => ⟨_, _, rfl, rfl⟩
theorem set4_A : Statement .set4_A := fun _ => ⟨_, _, rfl, rfl⟩
theorem set5_B : Statement .set5_B := fun _ => ⟨_, _, rfl, rfl⟩
theorem set5_C : Statement .set5_C := fun _ => ⟨_, _, rfl, rfl⟩
theorem set5_D : Statement .set5_D := fun _ => ⟨_, _, rfl, rfl⟩
theorem set5_E : Statement .set5_E := fun _ => ⟨_, _, rfl, rfl⟩
theorem set5_H : Statement .set5_H := fun _ => ⟨_, _, rfl, rfl⟩
theorem set5_L : Statement .set5_L := fun _ => ⟨_, _, rfl, rfl⟩
theorem set5_HLm : Statement .set5_HLm := fun _ => ⟨_, _, rfl, rfl⟩
theorem set5_A : Statement .set5_A := fun _ => ⟨_, _, rfl, rfl⟩
theorem set6_B : Statement .set6_B := fun _ => ⟨_, _, rfl, rfl⟩
theorem set6_C : Statement .set6_C := fun _ => ⟨_, _, rfl, rfl⟩
theorem set6_D : Statement .set6_D := fun _ => ⟨_, _, rfl, rfl⟩
theorem set6_E : Statement .set6_E := fun _ => ⟨_, _, rfl, rfl⟩
theorem set6_H : Statement .set6_H := fun _ => ⟨_, _, rfl, rfl⟩
theorem set6_L : Statement .set6_L := fun _ => ⟨_, _, rfl, rfl⟩
theorem set6_HLm : Statement .set6_HLm := fun _ => ⟨_, _, rfl, rfl⟩
theorem set6_A : Statement .set6_A := fun _ => ⟨_, _, rfl, rfl⟩
theorem set7_B : Statement .set7_B := fun _ => ⟨_, _, rfl, rfl⟩
theorem set7_C : Statement .set7_C := fun _ => ⟨_, _, rfl, rfl⟩
theorem set7_D : Statement .set7_D := fun _ => ⟨_, _, rfl, rfl⟩
theorem set7_E : Statement .set7_E := fun _ => ⟨_, _, rfl, rfl⟩
theorem set7_H : Statement .set7_H := fun _ => ⟨_, _, rfl, rfl⟩
theorem set7_L : Statement .set7_L := fun _ => ⟨_, _, rfl, rfl⟩
theorem set7_HLm : Statement .set7_HLm := fun _ => ⟨_, _, rfl, rfl⟩
theorem set7_A : Statement .set7_A := fun _ => ⟨_, _, rfl, rfl⟩

end Sys2Proof.Laws.EncodingLength
end

