-- ==== Sys2Proof/Laws/Step.lean ====
section
/-! SUPPORT. The three things a CPU step can be, and what a console step makes of it. -/

namespace Sys2Proof.Machine

/-- The wake and the deferred enable of EI, as one update of the interrupt control state. -/
theorem applyEi_wake (s : State) :
    applyEi (wake s) =
      { s with cpu := { s.cpu with ime := s.cpu.ime || s.cpu.imeScheduled, imeScheduled := false, halted := false } } := by
  unfold applyEi wake setIme
  cases h : s.cpu.imeScheduled <;> simp [h]

/-- What the console does after a CPU step is the tail of the run loop. -/
theorem afterCpuStep_eq (c : Nat) (s : State) : afterCpuStep c s = runTail c s := by
  unfold afterCpuStep runTail
  cases s.config.cycleSource <;> rfl

/-- A CPU step idles, services an interrupt, or fetches and executes after the wake and the deferred enable of EI (R360). -/
theorem cpuStep_cases (s : State) :
    (willIdle s ∧ ¬ willService s ∧ cpuStep s = .next (s, idleCycles)) ∨
    (willService s ∧ ¬ willIdle s ∧ cpuStep s = .next (service (pending s) (wake s), serviceCycles)) ∨
    (¬ willIdle s ∧ ¬ willService s ∧ cpuStep s = runInstr (beforeFetch s)) := by
  unfold willIdle willService cpuStep beforeFetch
  by_cases hn : s.config.irqImpl = .none
  · refine .inr (.inr ⟨?_, ?_, ?_⟩)
    · rw [hn]; simp
    · rw [hn]; simp
    · rw [if_pos hn, hn]; simp
  · have hf : s.config.irqImpl = .full := by
      cases h : s.config.irqImpl with
      | none => exact absurd h hn
      | full => rfl
    rw [if_neg hn]
    dsimp only
    by_cases hp : pending s = 0
    · by_cases hh : s.cpu.halted = true
      · exact .inl ⟨⟨hf, hh, hp⟩, fun h => h.2.2 hp, by rw [if_pos ⟨hh, hp⟩]⟩
      · refine .inr (.inr ⟨fun h => hh h.2.1, fun h => h.2.2 hp, ?_⟩)
        rw [if_neg fun h => hh h.1, if_neg fun h => h.2 hp, if_pos hf, applyEi_wake]
    · rw [if_neg fun h => hp h.2]
      by_cases hi : s.cpu.ime = true
      · exact .inr (.inl ⟨⟨hf, hi, hp⟩, fun h => hp h.2.2, by rw [if_pos ⟨hi, hp⟩]⟩)
      · refine .inr (.inr ⟨fun h => hp h.2.2, fun h => hi h.2.1, ?_⟩)
        rw [if_neg fun h => hi h.1, if_pos hf, applyEi_wake]

/-- A console step is a CPU step and what follows it, on a booted machine. -/
theorem step_of_cpuStep {s t : State} {c : Nat} (hs : s.stage = .runnable) (h : cpuStep s = .next (t, c)) :
    step s = .next (afterCpuStep c t) := by
  simp only [step, consoleStep, if_pos hs, h]

/-- A machine that is not booted refuses (R528). -/
theorem step_of_not_runnable {s : State} (hs : s.stage ≠ .runnable) : step s = .refused .notRunnable := by
  simp only [step, consoleStep, if_neg hs]

/-- The interrupt control state is all that changes before the fetch. -/
theorem beforeFetch_eq (s : State) :
    beforeFetch s =
      { s with cpu := { s.cpu with
          ime := (beforeFetch s).cpu.ime, imeScheduled := (beforeFetch s).cpu.imeScheduled
          halted := (beforeFetch s).cpu.halted } } := by
  unfold beforeFetch
  split <;> rfl

end Sys2Proof.Machine
end

