-- ==== Sys2Proof/Machine/Spelling.lean ====
section
/-! DEFINITION. The written form of an instruction (R162): the mnemonic and operand syntax of the opcode maps, with the operand
names `d8`, `n8`, `e8`, `d16` and `a16` for the values that operand bytes give. No rule reads it; there are no
pseudo-instructions (R163). -/

namespace Sys2Proof

/-- A register operand; index 6 is written `(HL)` (R162). -/
def R8.spelling : R8 → String
  | .b => "B" | .c => "C" | .d => "D" | .e => "E" | .h => "H" | .l => "L" | .hlm => "(HL)" | .a => "A"

/-- A pair of table `rp`. -/
def Rp.spelling : Rp → String
  | .bc => "BC" | .de => "DE" | .hl => "HL" | .sp => "SP"

/-- A pair of table `rp2`. -/
def Rp2.spelling : Rp2 → String
  | .bc => "BC" | .de => "DE" | .hl => "HL" | .af => "AF"

/-- A condition. -/
def Cond.spelling : Cond → String
  | .nz => "NZ" | .z => "Z" | .nc => "NC" | .c => "C"

/-- An indirect address. -/
def IndMode.spelling : IndMode → String
  | .bc => "(BC)" | .de => "(DE)" | .hlInc => "(HL+)" | .hlDec => "(HL-)"

/-- An ALU operation with what precedes its operand: `ADD A,r` but `SUB r`. -/
def AluOp.spelling : AluOp → String
  | .add => "ADD A," | .adc => "ADC A," | .sub => "SUB " | .sbc => "SBC A,"
  | .and => "AND " | .xor => "XOR " | .or => "OR " | .cp => "CP "

/-- A rotate, shift or swap of the CB page. -/
def RotOp.spelling : RotOp → String
  | .rlc => "RLC " | .rrc => "RRC " | .rl => "RL " | .rr => "RR "
  | .sla => "SLA " | .sra => "SRA " | .swap => "SWAP " | .srl => "SRL "

/-- A bit number with its comma. -/
def bitSpelling (b : BitVec 3) : String :=
  ["0,", "1,", "2,", "3,", "4,", "5,", "6,", "7,"].getD b.toNat ""

/-- A restart vector (R155). -/
def vectorSpelling (y : BitVec 3) : String :=
  ["0x00", "0x08", "0x10", "0x18", "0x20", "0x28", "0x30", "0x38"].getD y.toNat ""

/-- The written form (R162). -/
def Form.spelling : Form → String
  | .ld dst src => "LD " ++ dst.spelling ++ "," ++ src.spelling
  | .ldImm dst _ => "LD " ++ dst.spelling ++ ",d8"
  | .ldPairImm p _ => "LD " ++ p.spelling ++ ",d16"
  | .storeInd m => "LD " ++ m.spelling ++ ",A"
  | .loadInd m => "LD A," ++ m.spelling
  | .pop p => "POP " ++ p.spelling
  | .push p => "PUSH " ++ p.spelling
  | .storeAbs _ => "LD (a16),A"
  | .loadAbs _ => "LD A,(a16)"
  | .storeHigh _ => "LDH (n8),A"
  | .loadHigh _ => "LDH A,(n8)"
  | .storeHighC => "LD (C),A"
  | .loadHighC => "LD A,(C)"
  | .storeSp _ => "LD (a16),SP"
  | .ldSpHl => "LD SP,HL"
  | .aluReg op r => op.spelling ++ r.spelling
  | .aluImm op _ => op.spelling ++ "n8"
  | .incReg r => "INC " ++ r.spelling
  | .decReg r => "DEC " ++ r.spelling
  | .daa => "DAA"
  | .cpl => "CPL"
  | .scf => "SCF"
  | .ccf => "CCF"
  | .rlca => "RLCA"
  | .rrca => "RRCA"
  | .rla => "RLA"
  | .rra => "RRA"
  | .incPair p => "INC " ++ p.spelling
  | .decPair p => "DEC " ++ p.spelling
  | .addHl p => "ADD HL," ++ p.spelling
  | .addSp _ => "ADD SP,e8"
  | .ldHlSp _ => "LD HL,SP+e8"
  | .jp _ => "JP a16"
  | .jpCond cc _ => "JP " ++ cc.spelling ++ ",a16"
  | .jpHl => "JP (HL)"
  | .jr _ => "JR e8"
  | .jrCond cc _ => "JR " ++ cc.spelling ++ ",e8"
  | .call _ => "CALL a16"
  | .callCond cc _ => "CALL " ++ cc.spelling ++ ",a16"
  | .ret => "RET"
  | .retCond cc => "RET " ++ cc.spelling
  | .reti => "RETI"
  | .rst y => "RST " ++ vectorSpelling y
  | .nop => "NOP"
  | .halt => "HALT"
  | .stop => "STOP"
  | .di => "DI"
  | .ei => "EI"
  | .illegal _ => "ILLEGAL"
  | .prefixCb => "PREFIX CB"
  | .rot op r => op.spelling ++ r.spelling
  | .bit b r => "BIT " ++ bitSpelling b ++ r.spelling
  | .res b r => "RES " ++ bitSpelling b ++ r.spelling
  | .set b r => "SET " ++ bitSpelling b ++ r.spelling

end Sys2Proof
end

