-- ==== Sys2Proof/Tests/Slice0.lean ====
section
/-! SUPPORT. The model's own tests. Expected values are the spec's: the rows of spec/opcode_table.json, the tables of R150 and
R540, the worked examples of the rules and the vectors of spec/95_test_vectors.md. The last part gives a witness for the
hypotheses of every statement. -/

namespace Sys2Proof.Tests

open Sys2Proof.Machine

/-! ### Helpers -/

/-- A booted machine: a 32 KiB MBC1 cartridge of four ROM banks and four RAM banks, its image zero but for the header. -/
def booted (cfg : Config) : State :=
  { State.reset with
    config := cfg
    cart := { rom := [(0x147, 0x03), (0x148, 0x01), (0x149, 0x03)], romSize := 0x8000, cartType := 0x03, numRomBanks := 4
              numRamBanks := 4 }
    stage := .runnable }

/-- The full configuration with the peripherals stepped by the host only. -/
def hostStepped : Config := { Config.complete with cycleSource := .host }

/-- A booted machine with some registers set. -/
def regs (f : Cpu → Cpu) : State :=
  let s := booted hostStepped
  { s with cpu := f s.cpu }

/-- The state after the instruction that some bytes are; the state itself if they are none. -/
def after (bytes : List Byte) (s : State) : State :=
  match decode bytes with
  | .ok (i, _) =>
    match exec i s with
    | .next t => t
    | .fault _ => s
    | .refused _ => s
  | .error _ => s

/-- The state after a step. -/
def stepped (s : State) : State :=
  match step s with
  | .next t => t
  | .fault _ => s
  | .refused _ => s

/-- A machine about to execute some bytes, placed in work RAM at 0xC000. -/
def running (cfg : Config) (bytes : List Byte) (f : Cpu → Cpu) : State :=
  let s := booted cfg
  placeBytes 0xC000 bytes { s with cpu := f { s.cpu with pc := 0xC000 } }

/-! ### Well-formedness -/

/-- The one ill-formed term: the bare prefix is no whole instruction (R367). -/
theorem test_wellFormed_refuses_prefix : WellFormed .prefixCb = false := by decide

theorem test_wellFormed_accepts : WellFormed .halt = true ∧ WellFormed (.ldB_d8 0x05) = true ∧ WellFormed .bit7_H = true := by
  decide

/-! ### Decoding: every row of spec/opcode_table.json -/

theorem test_decode_main_0x : (List.range 16).map (fun c => decodeTableWord 8 (0x00 + c)) =
    [some .nop, some (.ldBC_d16 0x0000), some .ldBCm_A, some .incBC,
     some .incB, some .decB, some (.ldB_d8 0x00), some .rlca,
     some (.ldA16m_SP 0x0000), some .addHL_BC, some .ldA_BCm, some .decBC,
     some .incC, some .decC, some (.ldC_d8 0x00), some .rrca] := by decide

theorem test_decode_main_1x : (List.range 16).map (fun c => decodeTableWord 8 (0x10 + c)) =
    [some .stop, some (.ldDE_d16 0x0000), some .ldDEm_A, some .incDE,
     some .incD, some .decD, some (.ldD_d8 0x00), some .rla,
     some (.jr_e8 0x00), some .addHL_DE, some .ldA_DEm, some .decDE,
     some .incE, some .decE, some (.ldE_d8 0x00), some .rra] := by decide

theorem test_decode_main_2x : (List.range 16).map (fun c => decodeTableWord 8 (0x20 + c)) =
    [some (.jrNZ_e8 0x00), some (.ldHL_d16 0x0000), some .ldHLinc_A, some .incHL,
     some .incH, some .decH, some (.ldH_d8 0x00), some .daa,
     some (.jrZ_e8 0x00), some .addHL_HL, some .ldA_HLinc, some .decHL,
     some .incL, some .decL, some (.ldL_d8 0x00), some .cpl] := by decide

theorem test_decode_main_3x : (List.range 16).map (fun c => decodeTableWord 8 (0x30 + c)) =
    [some (.jrNC_e8 0x00), some (.ldSP_d16 0x0000), some .ldHLdec_A, some .incSP,
     some .incHLm, some .decHLm, some (.ldHLm_d8 0x00), some .scf,
     some (.jrC_e8 0x00), some .addHL_SP, some .ldA_HLdec, some .decSP,
     some .incA, some .decA, some (.ldA_d8 0x00), some .ccf] := by decide

theorem test_decode_main_4x : (List.range 16).map (fun c => decodeTableWord 8 (0x40 + c)) =
    [some .ldB_B, some .ldB_C, some .ldB_D, some .ldB_E,
     some .ldB_H, some .ldB_L, some .ldB_HLm, some .ldB_A,
     some .ldC_B, some .ldC_C, some .ldC_D, some .ldC_E,
     some .ldC_H, some .ldC_L, some .ldC_HLm, some .ldC_A] := by decide

theorem test_decode_main_5x : (List.range 16).map (fun c => decodeTableWord 8 (0x50 + c)) =
    [some .ldD_B, some .ldD_C, some .ldD_D, some .ldD_E,
     some .ldD_H, some .ldD_L, some .ldD_HLm, some .ldD_A,
     some .ldE_B, some .ldE_C, some .ldE_D, some .ldE_E,
     some .ldE_H, some .ldE_L, some .ldE_HLm, some .ldE_A] := by decide

theorem test_decode_main_6x : (List.range 16).map (fun c => decodeTableWord 8 (0x60 + c)) =
    [some .ldH_B, some .ldH_C, some .ldH_D, some .ldH_E,
     some .ldH_H, some .ldH_L, some .ldH_HLm, some .ldH_A,
     some .ldL_B, some .ldL_C, some .ldL_D, some .ldL_E,
     some .ldL_H, some .ldL_L, some .ldL_HLm, some .ldL_A] := by decide

theorem test_decode_main_7x : (List.range 16).map (fun c => decodeTableWord 8 (0x70 + c)) =
    [some .ldHLm_B, some .ldHLm_C, some .ldHLm_D, some .ldHLm_E,
     some .ldHLm_H, some .ldHLm_L, some .halt, some .ldHLm_A,
     some .ldA_B, some .ldA_C, some .ldA_D, some .ldA_E,
     some .ldA_H, some .ldA_L, some .ldA_HLm, some .ldA_A] := by decide

theorem test_decode_main_8x : (List.range 16).map (fun c => decodeTableWord 8 (0x80 + c)) =
    [some .addA_B, some .addA_C, some .addA_D, some .addA_E,
     some .addA_H, some .addA_L, some .addA_HLm, some .addA_A,
     some .adcA_B, some .adcA_C, some .adcA_D, some .adcA_E,
     some .adcA_H, some .adcA_L, some .adcA_HLm, some .adcA_A] := by decide

theorem test_decode_main_9x : (List.range 16).map (fun c => decodeTableWord 8 (0x90 + c)) =
    [some .sub_B, some .sub_C, some .sub_D, some .sub_E,
     some .sub_H, some .sub_L, some .sub_HLm, some .sub_A,
     some .sbcA_B, some .sbcA_C, some .sbcA_D, some .sbcA_E,
     some .sbcA_H, some .sbcA_L, some .sbcA_HLm, some .sbcA_A] := by decide

theorem test_decode_main_Ax : (List.range 16).map (fun c => decodeTableWord 8 (0xA0 + c)) =
    [some .and_B, some .and_C, some .and_D, some .and_E,
     some .and_H, some .and_L, some .and_HLm, some .and_A,
     some .xor_B, some .xor_C, some .xor_D, some .xor_E,
     some .xor_H, some .xor_L, some .xor_HLm, some .xor_A] := by decide

theorem test_decode_main_Bx : (List.range 16).map (fun c => decodeTableWord 8 (0xB0 + c)) =
    [some .or_B, some .or_C, some .or_D, some .or_E,
     some .or_H, some .or_L, some .or_HLm, some .or_A,
     some .cp_B, some .cp_C, some .cp_D, some .cp_E,
     some .cp_H, some .cp_L, some .cp_HLm, some .cp_A] := by decide

theorem test_decode_main_Cx : (List.range 16).map (fun c => decodeTableWord 8 (0xC0 + c)) =
    [some .retNZ, some .popBC, some (.jpNZ_a16 0x0000), some (.jp_a16 0x0000),
     some (.callNZ_a16 0x0000), some .pushBC, some (.addA_n8 0x00), some .rst00,
     some .retZ, some .ret, some (.jpZ_a16 0x0000), some .prefixCb,
     some (.callZ_a16 0x0000), some (.call_a16 0x0000), some (.adcA_n8 0x00), some .rst08] := by decide

theorem test_decode_main_Dx : (List.range 16).map (fun c => decodeTableWord 8 (0xD0 + c)) =
    [some .retNC, some .popDE, some (.jpNC_a16 0x0000), some .illegalD3,
     some (.callNC_a16 0x0000), some .pushDE, some (.sub_n8 0x00), some .rst10,
     some .retC, some .reti, some (.jpC_a16 0x0000), some .illegalDB,
     some (.callC_a16 0x0000), some .illegalDD, some (.sbcA_n8 0x00), some .rst18] := by decide

theorem test_decode_main_Ex : (List.range 16).map (fun c => decodeTableWord 8 (0xE0 + c)) =
    [some (.ldhN8m_A 0x00), some .popHL, some .ldCm_A, some .illegalE3,
     some .illegalE4, some .pushHL, some (.and_n8 0x00), some .rst20,
     some (.addSP_e8 0x00), some .jpHL, some (.ldA16m_A 0x0000), some .illegalEB,
     some .illegalEC, some .illegalED, some (.xor_n8 0x00), some .rst28] := by decide

theorem test_decode_main_Fx : (List.range 16).map (fun c => decodeTableWord 8 (0xF0 + c)) =
    [some (.ldhA_N8m 0x00), some .popAF, some .ldA_Cm, some .di,
     some .illegalF4, some .pushAF, some (.or_n8 0x00), some .rst30,
     some (.ldHL_SPe8 0x00), some .ldSP_HL, some (.ldA_A16m 0x0000), some .ei,
     some .illegalFC, some .illegalFD, some (.cp_n8 0x00), some .rst38] := by decide

theorem test_decode_cb_0x : (List.range 16).map (fun c => decodeTableWord 16 (0xCB00 + c)) =
    [some .rlc_B, some .rlc_C, some .rlc_D, some .rlc_E,
     some .rlc_H, some .rlc_L, some .rlc_HLm, some .rlc_A,
     some .rrc_B, some .rrc_C, some .rrc_D, some .rrc_E,
     some .rrc_H, some .rrc_L, some .rrc_HLm, some .rrc_A] := by decide

theorem test_decode_cb_1x : (List.range 16).map (fun c => decodeTableWord 16 (0xCB10 + c)) =
    [some .rl_B, some .rl_C, some .rl_D, some .rl_E,
     some .rl_H, some .rl_L, some .rl_HLm, some .rl_A,
     some .rr_B, some .rr_C, some .rr_D, some .rr_E,
     some .rr_H, some .rr_L, some .rr_HLm, some .rr_A] := by decide

theorem test_decode_cb_2x : (List.range 16).map (fun c => decodeTableWord 16 (0xCB20 + c)) =
    [some .sla_B, some .sla_C, some .sla_D, some .sla_E,
     some .sla_H, some .sla_L, some .sla_HLm, some .sla_A,
     some .sra_B, some .sra_C, some .sra_D, some .sra_E,
     some .sra_H, some .sra_L, some .sra_HLm, some .sra_A] := by decide

theorem test_decode_cb_3x : (List.range 16).map (fun c => decodeTableWord 16 (0xCB30 + c)) =
    [some .swap_B, some .swap_C, some .swap_D, some .swap_E,
     some .swap_H, some .swap_L, some .swap_HLm, some .swap_A,
     some .srl_B, some .srl_C, some .srl_D, some .srl_E,
     some .srl_H, some .srl_L, some .srl_HLm, some .srl_A] := by decide

theorem test_decode_cb_4x : (List.range 16).map (fun c => decodeTableWord 16 (0xCB40 + c)) =
    [some .bit0_B, some .bit0_C, some .bit0_D, some .bit0_E,
     some .bit0_H, some .bit0_L, some .bit0_HLm, some .bit0_A,
     some .bit1_B, some .bit1_C, some .bit1_D, some .bit1_E,
     some .bit1_H, some .bit1_L, some .bit1_HLm, some .bit1_A] := by decide

theorem test_decode_cb_5x : (List.range 16).map (fun c => decodeTableWord 16 (0xCB50 + c)) =
    [some .bit2_B, some .bit2_C, some .bit2_D, some .bit2_E,
     some .bit2_H, some .bit2_L, some .bit2_HLm, some .bit2_A,
     some .bit3_B, some .bit3_C, some .bit3_D, some .bit3_E,
     some .bit3_H, some .bit3_L, some .bit3_HLm, some .bit3_A] := by decide

theorem test_decode_cb_6x : (List.range 16).map (fun c => decodeTableWord 16 (0xCB60 + c)) =
    [some .bit4_B, some .bit4_C, some .bit4_D, some .bit4_E,
     some .bit4_H, some .bit4_L, some .bit4_HLm, some .bit4_A,
     some .bit5_B, some .bit5_C, some .bit5_D, some .bit5_E,
     some .bit5_H, some .bit5_L, some .bit5_HLm, some .bit5_A] := by decide

theorem test_decode_cb_7x : (List.range 16).map (fun c => decodeTableWord 16 (0xCB70 + c)) =
    [some .bit6_B, some .bit6_C, some .bit6_D, some .bit6_E,
     some .bit6_H, some .bit6_L, some .bit6_HLm, some .bit6_A,
     some .bit7_B, some .bit7_C, some .bit7_D, some .bit7_E,
     some .bit7_H, some .bit7_L, some .bit7_HLm, some .bit7_A] := by decide

theorem test_decode_cb_8x : (List.range 16).map (fun c => decodeTableWord 16 (0xCB80 + c)) =
    [some .res0_B, some .res0_C, some .res0_D, some .res0_E,
     some .res0_H, some .res0_L, some .res0_HLm, some .res0_A,
     some .res1_B, some .res1_C, some .res1_D, some .res1_E,
     some .res1_H, some .res1_L, some .res1_HLm, some .res1_A] := by decide

theorem test_decode_cb_9x : (List.range 16).map (fun c => decodeTableWord 16 (0xCB90 + c)) =
    [some .res2_B, some .res2_C, some .res2_D, some .res2_E,
     some .res2_H, some .res2_L, some .res2_HLm, some .res2_A,
     some .res3_B, some .res3_C, some .res3_D, some .res3_E,
     some .res3_H, some .res3_L, some .res3_HLm, some .res3_A] := by decide

theorem test_decode_cb_Ax : (List.range 16).map (fun c => decodeTableWord 16 (0xCBA0 + c)) =
    [some .res4_B, some .res4_C, some .res4_D, some .res4_E,
     some .res4_H, some .res4_L, some .res4_HLm, some .res4_A,
     some .res5_B, some .res5_C, some .res5_D, some .res5_E,
     some .res5_H, some .res5_L, some .res5_HLm, some .res5_A] := by decide

theorem test_decode_cb_Bx : (List.range 16).map (fun c => decodeTableWord 16 (0xCBB0 + c)) =
    [some .res6_B, some .res6_C, some .res6_D, some .res6_E,
     some .res6_H, some .res6_L, some .res6_HLm, some .res6_A,
     some .res7_B, some .res7_C, some .res7_D, some .res7_E,
     some .res7_H, some .res7_L, some .res7_HLm, some .res7_A] := by decide

theorem test_decode_cb_Cx : (List.range 16).map (fun c => decodeTableWord 16 (0xCBC0 + c)) =
    [some .set0_B, some .set0_C, some .set0_D, some .set0_E,
     some .set0_H, some .set0_L, some .set0_HLm, some .set0_A,
     some .set1_B, some .set1_C, some .set1_D, some .set1_E,
     some .set1_H, some .set1_L, some .set1_HLm, some .set1_A] := by decide

theorem test_decode_cb_Dx : (List.range 16).map (fun c => decodeTableWord 16 (0xCBD0 + c)) =
    [some .set2_B, some .set2_C, some .set2_D, some .set2_E,
     some .set2_H, some .set2_L, some .set2_HLm, some .set2_A,
     some .set3_B, some .set3_C, some .set3_D, some .set3_E,
     some .set3_H, some .set3_L, some .set3_HLm, some .set3_A] := by decide

theorem test_decode_cb_Ex : (List.range 16).map (fun c => decodeTableWord 16 (0xCBE0 + c)) =
    [some .set4_B, some .set4_C, some .set4_D, some .set4_E,
     some .set4_H, some .set4_L, some .set4_HLm, some .set4_A,
     some .set5_B, some .set5_C, some .set5_D, some .set5_E,
     some .set5_H, some .set5_L, some .set5_HLm, some .set5_A] := by decide

theorem test_decode_cb_Fx : (List.range 16).map (fun c => decodeTableWord 16 (0xCBF0 + c)) =
    [some .set6_B, some .set6_C, some .set6_D, some .set6_E,
     some .set6_H, some .set6_L, some .set6_HLm, some .set6_A,
     some .set7_B, some .set7_C, some .set7_D, some .set7_E,
     some .set7_H, some .set7_L, some .set7_HLm, some .set7_A] := by decide

/-! ### Decoding: words written out bit by bit from the fields of R151 to R155 and R400 -/

/-- x = 1, y = 000 (B), z = 001 (C): LD B,C (R200). -/
theorem test_bits_ld_b_c : decode [0b01_000_001] = .ok (.ldB_C, []) :=
  rfl
/-- y = 110 (the byte at HL), immediate 0x5A: LD (HL),d8 (R201). -/
theorem test_bits_ld_hlm_d8 : decode [0b00_110_110, 0x5A] = .ok (.ldHLm_d8 0x5A, []) :=
  rfl
/-- p = 10 (HL), low byte first: LD HL,d16 (R202). -/
theorem test_bits_ld_hl_d16 : decode [0b00_10_0001, 0x34, 0x12] = .ok (.ldHL_d16 0x1234, []) :=
  rfl
/-- p = 11 (AF under `rp2`): PUSH AF and POP AF (R213, R214). -/
theorem test_bits_push_pop_af : decode [0b11_11_0101] = .ok (.pushAF, []) ∧ decode [0b11_11_0001] = .ok (.popAF, []) :=
  ⟨rfl, rfl⟩
/-- x = 2, y = 011 (SBC), z = 110: SBC A,(HL) (R254); x = 3: SBC A,n8. -/
theorem test_bits_sbc : decode [0b10_011_110] = .ok (.sbcA_HLm, []) ∧ decode [0b11_011_110, 0x7F] = .ok (.sbcA_n8 0x7F, []) :=
  ⟨rfl, rfl⟩
/-- y = 101 (L): INC L, DEC L (R259, R260). -/
theorem test_bits_inc_dec_l : decode [0b00_101_100] = .ok (.incL, []) ∧ decode [0b00_101_101] = .ok (.decL, []) :=
  ⟨rfl, rfl⟩
/-- p = 11 (SP under `rp`): ADD HL,SP (R302). -/
theorem test_bits_add_hl_sp : decode [0b00_11_1001] = .ok (.addHL_SP, []) :=
  rfl
/-- cc = 10 (NC): JP NC,a16, JR NC,e8, CALL NC,a16, RET NC (R154). -/
theorem test_bits_conditions :
    decode [0b110_10_010, 0x00, 0x02] = .ok (.jpNC_a16 0x0200, []) ∧ decode [0b001_10_000, 0xFB] = .ok (.jrNC_e8 0xFB, []) ∧
    decode [0b110_10_100, 0x00, 0x02] = .ok (.callNC_a16 0x0200, []) ∧ decode [0b110_10_000] = .ok (.retNC, []) :=
  ⟨rfl, rfl, rfl, rfl⟩
/-- y = 101: RST 0x28 (R155). -/
theorem test_bits_rst : decode [0b11_101_111] = .ok (.rst28, []) :=
  rfl
/-- y = z = 110 in the load block is HALT (R362). -/
theorem test_bits_halt : decode [0b01_110_110] = .ok (.halt, []) :=
  rfl
/-- CB page: x = 0, y = 110 (SWAP), z = 111 (A); x = 1, b = 7, z = 100 (H); x = 2, b = 0, z = 110; x = 3, b = 7, z = 111 (R400). -/
theorem test_bits_cb :
    decode [0xCB, 0b00_110_111] = .ok (.swap_A, []) ∧ decode [0xCB, 0b01_111_100] = .ok (.bit7_H, []) ∧
    decode [0xCB, 0b10_000_110] = .ok (.res0_HLm, []) ∧ decode [0xCB, 0b11_111_111] = .ok (.set7_A, []) :=
  ⟨rfl, rfl, rfl, rfl⟩
/-- Rejections by name: nothing to decode, and an operand that is not there. -/
theorem test_decode_rejects :
    decode [] = .error .noBytes ∧ decode [0x06] = .error .missingOperand ∧ decode [0xC3, 0x00] = .error .missingOperand :=
  ⟨rfl, rfl, rfl⟩

/-- Written forms of R162: one of each shape of operand. -/
theorem test_spelling :
    Instr.ldHLm_B.form.spelling = "LD (HL),B" ∧ (Instr.sub_n8 0).form.spelling = "SUB n8" ∧
    Instr.rst38.form.spelling = "RST 0x38" ∧ Instr.bit7_H.form.spelling = "BIT 7,H" := by decide

/-! ### The length table of R150 and the cycle tables of R540 -/

/-- R150, rows 0x0_ to 0xF_ in two halves. -/
theorem test_lengths_low : (List.range 8).map (fun r => (List.range 16).map fun c => lengthOf (BitVec.ofNat 8 (16 * r + c))) =
    [[1, 3, 1, 1, 1, 1, 2, 1, 3, 1, 1, 1, 1, 1, 2, 1],
     [2, 3, 1, 1, 1, 1, 2, 1, 2, 1, 1, 1, 1, 1, 2, 1],
     [2, 3, 1, 1, 1, 1, 2, 1, 2, 1, 1, 1, 1, 1, 2, 1],
     [2, 3, 1, 1, 1, 1, 2, 1, 2, 1, 1, 1, 1, 1, 2, 1],
     [1, 1, 1, 1, 1, 1, 1, 1, 1, 1, 1, 1, 1, 1, 1, 1],
     [1, 1, 1, 1, 1, 1, 1, 1, 1, 1, 1, 1, 1, 1, 1, 1],
     [1, 1, 1, 1, 1, 1, 1, 1, 1, 1, 1, 1, 1, 1, 1, 1],
     [1, 1, 1, 1, 1, 1, 1, 1, 1, 1, 1, 1, 1, 1, 1, 1]] := by decide

/-- R150, rows 0x0_ to 0xF_ in two halves. -/
theorem test_lengths_high : (List.range 8).map (fun r => (List.range 16).map fun c => lengthOf (BitVec.ofNat 8 (16 * (r + 8) + c))) =
    [[1, 1, 1, 1, 1, 1, 1, 1, 1, 1, 1, 1, 1, 1, 1, 1],
     [1, 1, 1, 1, 1, 1, 1, 1, 1, 1, 1, 1, 1, 1, 1, 1],
     [1, 1, 1, 1, 1, 1, 1, 1, 1, 1, 1, 1, 1, 1, 1, 1],
     [1, 1, 1, 1, 1, 1, 1, 1, 1, 1, 1, 1, 1, 1, 1, 1],
     [1, 1, 3, 3, 3, 1, 2, 1, 1, 1, 3, 2, 3, 3, 2, 1],
     [1, 1, 3, 1, 3, 1, 2, 1, 1, 1, 3, 1, 3, 1, 2, 1],
     [2, 1, 1, 1, 1, 1, 2, 1, 2, 1, 3, 1, 1, 1, 2, 1],
     [2, 1, 1, 1, 1, 1, 2, 1, 2, 1, 3, 1, 1, 1, 2, 1]] := by decide

/-- The count of the instruction a table word decodes to, taken or not. -/
def countOf (nbits w : Nat) (taken : Bool) : Nat :=
  match decodeTableWord nbits w with
  | some i => formCycles i.form taken
  | none => 0

/-- R540, main page, taken. -/
theorem test_cycles_taken_low : (List.range 8).map (fun r => (List.range 16).map fun c => countOf 8 (16 * r + c) true) =
    [[1, 3, 2, 2, 1, 1, 2, 1, 5, 2, 2, 2, 1, 1, 2, 1],
     [1, 3, 2, 2, 1, 1, 2, 1, 3, 2, 2, 2, 1, 1, 2, 1],
     [3, 3, 2, 2, 1, 1, 2, 1, 3, 2, 2, 2, 1, 1, 2, 1],
     [3, 3, 2, 2, 3, 3, 3, 1, 3, 2, 2, 2, 1, 1, 2, 1],
     [1, 1, 1, 1, 1, 1, 2, 1, 1, 1, 1, 1, 1, 1, 2, 1],
     [1, 1, 1, 1, 1, 1, 2, 1, 1, 1, 1, 1, 1, 1, 2, 1],
     [1, 1, 1, 1, 1, 1, 2, 1, 1, 1, 1, 1, 1, 1, 2, 1],
     [2, 2, 2, 2, 2, 2, 1, 2, 1, 1, 1, 1, 1, 1, 2, 1]] := by decide

/-- R540, main page, taken. -/
theorem test_cycles_taken_high : (List.range 8).map (fun r => (List.range 16).map fun c => countOf 8 (16 * (r + 8) + c) true) =
    [[1, 1, 1, 1, 1, 1, 2, 1, 1, 1, 1, 1, 1, 1, 2, 1],
     [1, 1, 1, 1, 1, 1, 2, 1, 1, 1, 1, 1, 1, 1, 2, 1],
     [1, 1, 1, 1, 1, 1, 2, 1, 1, 1, 1, 1, 1, 1, 2, 1],
     [1, 1, 1, 1, 1, 1, 2, 1, 1, 1, 1, 1, 1, 1, 2, 1],
     [5, 3, 4, 4, 6, 4, 2, 4, 5, 4, 4, 2, 6, 6, 2, 4],
     [5, 3, 4, 1, 6, 4, 2, 4, 5, 4, 4, 1, 6, 1, 2, 4],
     [3, 3, 2, 1, 1, 4, 2, 4, 4, 1, 4, 1, 1, 1, 2, 4],
     [3, 3, 2, 1, 1, 4, 2, 4, 3, 2, 4, 1, 1, 1, 2, 4]] := by decide

/-- R540, main page, not taken. -/
theorem test_cycles_notTaken_low : (List.range 8).map (fun r => (List.range 16).map fun c => countOf 8 (16 * r + c) false) =
    [[1, 3, 2, 2, 1, 1, 2, 1, 5, 2, 2, 2, 1, 1, 2, 1],
     [1, 3, 2, 2, 1, 1, 2, 1, 3, 2, 2, 2, 1, 1, 2, 1],
     [2, 3, 2, 2, 1, 1, 2, 1, 2, 2, 2, 2, 1, 1, 2, 1],
     [2, 3, 2, 2, 3, 3, 3, 1, 2, 2, 2, 2, 1, 1, 2, 1],
     [1, 1, 1, 1, 1, 1, 2, 1, 1, 1, 1, 1, 1, 1, 2, 1],
     [1, 1, 1, 1, 1, 1, 2, 1, 1, 1, 1, 1, 1, 1, 2, 1],
     [1, 1, 1, 1, 1, 1, 2, 1, 1, 1, 1, 1, 1, 1, 2, 1],
     [2, 2, 2, 2, 2, 2, 1, 2, 1, 1, 1, 1, 1, 1, 2, 1]] := by decide

/-- R540, main page, not taken. -/
theorem test_cycles_notTaken_high : (List.range 8).map (fun r => (List.range 16).map fun c => countOf 8 (16 * (r + 8) + c) false) =
    [[1, 1, 1, 1, 1, 1, 2, 1, 1, 1, 1, 1, 1, 1, 2, 1],
     [1, 1, 1, 1, 1, 1, 2, 1, 1, 1, 1, 1, 1, 1, 2, 1],
     [1, 1, 1, 1, 1, 1, 2, 1, 1, 1, 1, 1, 1, 1, 2, 1],
     [1, 1, 1, 1, 1, 1, 2, 1, 1, 1, 1, 1, 1, 1, 2, 1],
     [2, 3, 3, 4, 3, 4, 2, 4, 2, 4, 3, 2, 3, 6, 2, 4],
     [2, 3, 3, 1, 3, 4, 2, 4, 2, 4, 3, 1, 3, 1, 2, 4],
     [3, 3, 2, 1, 1, 4, 2, 4, 4, 1, 4, 1, 1, 1, 2, 4],
     [3, 3, 2, 1, 1, 4, 2, 4, 3, 2, 4, 1, 1, 1, 2, 4]] := by decide

/-- R540, CB page. -/
theorem test_cycles_cb_low : (List.range 8).map (fun r => (List.range 16).map fun c => countOf 16 (0xCB00 + 16 * r + c) true) =
    [[2, 2, 2, 2, 2, 2, 4, 2, 2, 2, 2, 2, 2, 2, 4, 2],
     [2, 2, 2, 2, 2, 2, 4, 2, 2, 2, 2, 2, 2, 2, 4, 2],
     [2, 2, 2, 2, 2, 2, 4, 2, 2, 2, 2, 2, 2, 2, 4, 2],
     [2, 2, 2, 2, 2, 2, 4, 2, 2, 2, 2, 2, 2, 2, 4, 2],
     [2, 2, 2, 2, 2, 2, 3, 2, 2, 2, 2, 2, 2, 2, 3, 2],
     [2, 2, 2, 2, 2, 2, 3, 2, 2, 2, 2, 2, 2, 2, 3, 2],
     [2, 2, 2, 2, 2, 2, 3, 2, 2, 2, 2, 2, 2, 2, 3, 2],
     [2, 2, 2, 2, 2, 2, 3, 2, 2, 2, 2, 2, 2, 2, 3, 2]] := by decide

/-- R540, CB page. -/
theorem test_cycles_cb_high : (List.range 8).map (fun r => (List.range 16).map fun c => countOf 16 (0xCB00 + 16 * (r + 8) + c) true) =
    [[2, 2, 2, 2, 2, 2, 4, 2, 2, 2, 2, 2, 2, 2, 4, 2],
     [2, 2, 2, 2, 2, 2, 4, 2, 2, 2, 2, 2, 2, 2, 4, 2],
     [2, 2, 2, 2, 2, 2, 4, 2, 2, 2, 2, 2, 2, 2, 4, 2],
     [2, 2, 2, 2, 2, 2, 4, 2, 2, 2, 2, 2, 2, 2, 4, 2],
     [2, 2, 2, 2, 2, 2, 4, 2, 2, 2, 2, 2, 2, 2, 4, 2],
     [2, 2, 2, 2, 2, 2, 4, 2, 2, 2, 2, 2, 2, 2, 4, 2],
     [2, 2, 2, 2, 2, 2, 4, 2, 2, 2, 2, 2, 2, 2, 4, 2],
     [2, 2, 2, 2, 2, 2, 4, 2, 2, 2, 2, 2, 2, 2, 4, 2]] := by decide

/-! ### Instructions: the vectors of spec/95_test_vectors.md, part 2 -/

/-- A and F after an instruction on A, F and B. -/
def aluRow (bytes : List Byte) (a f b : Byte) : Byte × Byte :=
  let t := after bytes (regs fun r => { r with a := a, f := f, b := b })
  (t.cpu.a, t.cpu.f)

/-- V-ALU, ADD: (A, C in, v, A, F out), immediate and register operand. -/
theorem test_alu_add :
    ([(0x3A, 0x00, 0xC6, 0x00, 0xB0), (0x0F, 0x00, 0x01, 0x10, 0x20), (0xFF, 0x00, 0x01, 0x00, 0xB0), (0x80, 0x00, 0x80, 0x00, 0x90), (0x12, 0x00, 0x34, 0x46, 0x00), (0x00, 0x00, 0x00, 0x00, 0x80)] : List (Byte × Byte × Byte × Byte × Byte)).all (fun (a, c, v, r, f) =>
      aluRow [0xC6, v] a c 0 == (r, f) && aluRow [0x80] a c v == (r, f)) = true := by decide

/-- V-ALU, ADC: (A, C in, v, A, F out), immediate and register operand. -/
theorem test_alu_adc :
    ([(0xE1, 0x10, 0x0F, 0xF1, 0x20), (0xE1, 0x10, 0x3B, 0x1D, 0x10), (0xE1, 0x10, 0x1E, 0x00, 0xB0), (0x0F, 0x10, 0xF0, 0x00, 0xB0), (0x00, 0x00, 0x00, 0x00, 0x80)] : List (Byte × Byte × Byte × Byte × Byte)).all (fun (a, c, v, r, f) =>
      aluRow [0xCE, v] a c 0 == (r, f) && aluRow [0x88] a c v == (r, f)) = true := by decide

/-- V-ALU, SUB: (A, C in, v, A, F out), immediate and register operand. -/
theorem test_alu_sub :
    ([(0x3E, 0x00, 0x3E, 0x00, 0xC0), (0x3E, 0x00, 0x0F, 0x2F, 0x60), (0x3E, 0x00, 0x40, 0xFE, 0x50), (0x00, 0x00, 0x01, 0xFF, 0x70), (0x80, 0x00, 0x7F, 0x01, 0x60)] : List (Byte × Byte × Byte × Byte × Byte)).all (fun (a, c, v, r, f) =>
      aluRow [0xD6, v] a c 0 == (r, f) && aluRow [0x90] a c v == (r, f)) = true := by decide

/-- V-ALU, SBC: (A, C in, v, A, F out), immediate and register operand. -/
theorem test_alu_sbc :
    ([(0x3B, 0x10, 0x2A, 0x10, 0x40), (0x3B, 0x10, 0x4F, 0xEB, 0x70), (0x3B, 0x10, 0x3A, 0x00, 0xC0), (0x00, 0x10, 0xFF, 0x00, 0xF0), (0x10, 0x10, 0x0F, 0x00, 0xE0), (0xFF, 0x10, 0xFF, 0xFF, 0x70)] : List (Byte × Byte × Byte × Byte × Byte)).all (fun (a, c, v, r, f) =>
      aluRow [0xDE, v] a c 0 == (r, f) && aluRow [0x98] a c v == (r, f)) = true := by decide

/-- V-ALU, AND: (A, C in, v, A, F out), immediate and register operand. -/
theorem test_alu_and :
    ([(0x5A, 0x00, 0x3F, 0x1A, 0x20), (0xF0, 0x00, 0x0F, 0x00, 0xA0)] : List (Byte × Byte × Byte × Byte × Byte)).all (fun (a, c, v, r, f) =>
      aluRow [0xE6, v] a c 0 == (r, f) && aluRow [0xA0] a c v == (r, f)) = true := by decide

/-- V-ALU, XOR: (A, C in, v, A, F out), immediate and register operand. -/
theorem test_alu_xor :
    ([(0xFF, 0x00, 0x0F, 0xF0, 0x00), (0x5A, 0x00, 0x5A, 0x00, 0x80)] : List (Byte × Byte × Byte × Byte × Byte)).all (fun (a, c, v, r, f) =>
      aluRow [0xEE, v] a c 0 == (r, f) && aluRow [0xA8] a c v == (r, f)) = true := by decide

/-- V-ALU, OR: (A, C in, v, A, F out), immediate and register operand. -/
theorem test_alu_or :
    ([(0x00, 0x00, 0x00, 0x00, 0x80), (0x5A, 0x00, 0x0F, 0x5F, 0x00)] : List (Byte × Byte × Byte × Byte × Byte)).all (fun (a, c, v, r, f) =>
      aluRow [0xF6, v] a c 0 == (r, f) && aluRow [0xB0] a c v == (r, f)) = true := by decide

/-- V-ALU, CP: (A, C in, v, A, F out), immediate and register operand. -/
theorem test_alu_cp :
    ([(0x3C, 0x00, 0x2F, 0x3C, 0x60), (0x3C, 0x00, 0x3C, 0x3C, 0xC0), (0x3C, 0x00, 0x40, 0x3C, 0x50)] : List (Byte × Byte × Byte × Byte × Byte)).all (fun (a, c, v, r, f) =>
      aluRow [0xFE, v] a c 0 == (r, f) && aluRow [0xB8] a c v == (r, f)) = true := by decide

/-- V-ALU, INC B and INC (HL): (old, C in, new, F out). -/
theorem test_inc :
    ([(0xFF, 0x00, 0x00, 0xA0), (0x0F, 0x10, 0x10, 0x30), (0x50, 0x00, 0x51, 0x00), (0x00, 0x10, 0x01, 0x10)] : List (Byte × Byte × Byte × Byte)).all (fun (o, c, n, f) =>
      let t := after [0x04] (regs fun r => { r with b := o, f := c })
      let u := after [0x34] (memWrite 0xC100 o (regs fun r => { r with h := 0xC1, f := c }))
      t.cpu.b == n && t.cpu.f == f && readByte u 0xC100 == n && u.cpu.f == f) = true := by decide

/-- V-ALU, DEC B and DEC (HL): (old, C in, new, F out). -/
theorem test_dec :
    ([(0x01, 0x00, 0x00, 0xC0), (0x00, 0x10, 0xFF, 0x70), (0x10, 0x00, 0x0F, 0x60), (0x42, 0x10, 0x41, 0x50)] : List (Byte × Byte × Byte × Byte)).all (fun (o, c, n, f) =>
      let t := after [0x05] (regs fun r => { r with b := o, f := c })
      let u := after [0x35] (memWrite 0xC100 o (regs fun r => { r with h := 0xC1, f := c }))
      t.cpu.b == n && t.cpu.f == f && readByte u 0xC100 == n && u.cpu.f == f) = true := by decide

/-- V-ALU, DAA: (A, F in, A, F out). -/
theorem test_daa :
    ([(0x7D, 0x00, 0x83, 0x00), (0x9A, 0x00, 0x00, 0x90), (0x00, 0x00, 0x00, 0x80), (0x0A, 0x00, 0x10, 0x00), (0xA0, 0x00, 0x00, 0x90), (0x12, 0x20, 0x18, 0x00), (0x15, 0x10, 0x75, 0x10), (0xFF, 0x70, 0x99, 0x50), (0x0C, 0x60, 0x06, 0x40), (0xF0, 0x50, 0x90, 0x50), (0x45, 0x40, 0x45, 0x40), (0x66, 0x70, 0x00, 0xD0)] : List (Byte × Byte × Byte × Byte)).all
      (fun (a, f, r, g) => aluRow [0x27] a f 0 == (r, g)) = true := by decide

/-- V-ALU, CPL, SCF, CCF and the rotates of A. -/
theorem test_accumulator_ops :
    aluRow [0x2F] 0x35 0x90 0 = (0xCA, 0xF0) ∧ aluRow [0x37] 0x11 0xE0 0 = (0x11, 0x90) ∧
    aluRow [0x3F] 0x11 0x70 0 = (0x11, 0x00) ∧ aluRow [0x3F] 0x11 0x80 0 = (0x11, 0x90) ∧
    aluRow [0x07] 0x85 0x00 0 = (0x0B, 0x10) ∧ aluRow [0x07] 0x00 0x80 0 = (0x00, 0x00) ∧
    aluRow [0x0F] 0x3B 0x00 0 = (0x9D, 0x10) ∧ aluRow [0x17] 0x80 0x00 0 = (0x00, 0x10) ∧
    aluRow [0x17] 0x95 0x10 0 = (0x2B, 0x10) ∧ aluRow [0x1F] 0x01 0x00 0 = (0x00, 0x10) ∧
    aluRow [0x1F] 0x81 0x00 0 = (0x40, 0x10) := by decide

/-- V-CB, rotates, shifts and SWAP of B and of the byte at HL: (CB byte, v, C in, result, F out). -/
theorem test_cb_rotates_first :
    ([(0x00, 0x85, 0x00, 0x0B, 0x10), (0x00, 0x00, 0x10, 0x00, 0x80), (0x00, 0x80, 0x00, 0x01, 0x10), (0x08, 0x01, 0x00, 0x80, 0x10), (0x08, 0x00, 0x00, 0x00, 0x80), (0x08, 0x3B, 0x10, 0x9D, 0x10), (0x10, 0x80, 0x00, 0x00, 0x90), (0x10, 0x00, 0x10, 0x01, 0x00), (0x10, 0x95, 0x10, 0x2B, 0x10), (0x18, 0x01, 0x00, 0x00, 0x90), (0x18, 0x00, 0x10, 0x80, 0x00), (0x18, 0x81, 0x00, 0x40, 0x10), (0x20, 0x80, 0x00, 0x00, 0x90)] : List (Byte × Byte × Byte × Byte × Byte)).all (fun (o, v, c, n, f) =>
      let t := after [0xCB, o] (regs fun r => { r with b := v, f := c })
      let u := after [0xCB, o + 6] (memWrite 0xC100 v (regs fun r => { r with h := 0xC1, f := c }))
      t.cpu.b == n && t.cpu.f == f && readByte u 0xC100 == n && u.cpu.f == f) = true := by decide

/-- V-CB, rotates, shifts and SWAP of B and of the byte at HL: (CB byte, v, C in, result, F out). -/
theorem test_cb_rotates_second :
    ([(0x20, 0xFF, 0x00, 0xFE, 0x10), (0x20, 0x41, 0x10, 0x82, 0x00), (0x28, 0x01, 0x00, 0x00, 0x90), (0x28, 0xFF, 0x00, 0xFF, 0x10), (0x28, 0x80, 0x10, 0xC0, 0x00), (0x28, 0x8A, 0x00, 0xC5, 0x00), (0x30, 0x00, 0x10, 0x00, 0x80), (0x30, 0xF1, 0x10, 0x1F, 0x00), (0x30, 0x11, 0x00, 0x11, 0x00), (0x38, 0x01, 0x00, 0x00, 0x90), (0x38, 0xFF, 0x00, 0x7F, 0x10), (0x38, 0x8F, 0x00, 0x47, 0x10)] : List (Byte × Byte × Byte × Byte × Byte)).all (fun (o, v, c, n, f) =>
      let t := after [0xCB, o] (regs fun r => { r with b := v, f := c })
      let u := after [0xCB, o + 6] (memWrite 0xC100 v (regs fun r => { r with h := 0xC1, f := c }))
      t.cpu.b == n && t.cpu.f == f && readByte u 0xC100 == n && u.cpu.f == f) = true := by decide

/-- The examples of R409 to R411: BIT 7,H; RES 0,(HL); SET 7,A; and SET 0,(HL) on DIV, which zeroes it (R400). -/
theorem test_cb_bits :
    (after [0xCB, 0x7C] (regs fun r => { r with h := 0x80, f := 0x10 })).cpu.f = 0x30 ∧
    readByte (after [0xCB, 0x86] (memWrite 0xC000 0xFF (regs fun r => { r with h := 0xC0 }))) 0xC000 = 0xFE ∧
    (after [0xCB, 0xFF] (regs id)).cpu.a = 0x80 ∧
    readByte (after [0xCB, 0xC6] (setSlot 0x04 0x20 (regs fun r => { r with h := 0xFF, l := 0x04 }))) 0xFF04 = 0x00 := by decide

/-- V-SYS 7: a CB opcode under `CB_IMPL = UNIMPLEMENTED` (R368), through a step at 0xC000. -/
theorem test_cb_unimplemented :
    let t := stepped (running Config.baseline [0xCB, 0x37] fun r => { r with a := 0xF1 })
    t.cpu.a = 0xF1 ∧ t.cpu.pc = 0xC002 ∧ t.diag = [⟨.cbUnimplemented, 0xC000, 0x37⟩] := by decide

/-- V-SYS 8: the same bytes under FULL (R407). -/
theorem test_cb_full :
    let t := stepped (running hostStepped [0xCB, 0x37] fun r => { r with a := 0xF1 })
    t.cpu.a = 0x1F ∧ t.cpu.f = 0x00 ∧ t.cpu.pc = 0xC002 ∧ t.diag = [] := by decide

/-- The row PREFIX CB executed by itself fetches the second byte (R367). -/
theorem test_prefix_cb :
    let t := after [0xCB] (running hostStepped [0x37] fun r => { r with a := 0xF1 })
    t.cpu.a = 0x1F ∧ t.cpu.pc = 0xC001 := by decide

/-- V-LD 2 and 4: `LD L,(HL)` reads with the old HL; `LD (HL),d8` on DIV zeroes it (R200, R201, R113). -/
theorem test_ld_hlm :
    (after [0x6E] (memWrite 0xC000 0x12 (regs fun r => { r with h := 0xC0 }))).cpu.hl = 0xC012 ∧
    readByte (after [0x36, 0x5A] (regs fun r => { r with h := 0xFF, l := 0x04 })) 0xFF04 = 0x00 := by decide

/-- V-LD 5, 17: `LD SP,d16`, `LD SP,HL` (R202, R222). -/
theorem test_ld_sp :
    (after [0x31, 0x34, 0x12] (regs id)).cpu.sp = 0x1234 ∧
    (after [0xF9] (regs fun r => { r with h := 0xC0, l := 0xDE })).cpu.sp = 0xC0DE := by decide

/-- V-LD 6, 7 and the examples of R203 to R209: indirect loads and stores, with HL wrapping. -/
theorem test_indirect :
    (let t := after [0x22] (regs fun r => { r with h := 0xFF, l := 0xFF, a := 0x1F }); t.mmu.ie = 0x1F ∧ t.cpu.hl = 0x0000) ∧
    (let t := after [0x3A] (regs id); t.cpu.a = 0x00 ∧ t.cpu.hl = 0xFFFF) ∧
    readByte (after [0x02] (regs fun r => { r with b := 0xC0, a := 0x5A })) 0xC000 = 0x5A ∧
    readByte (after [0x12] (regs fun r => { r with d := 0xFF, e := 0x80, a := 0x01 })) 0xFF80 = 0x01 ∧
    (after [0x1A] (regs fun r => { r with d := 0x01, e := 0x47 })).cpu.a = 0x03 := by decide

/-- V-LD 8: a store to the unusable range is a diagnostic and nothing else (R102). -/
theorem test_store_unusable :
    let s := regs fun r => { r with b := 0xFE, c := 0xA5, a := 0x07 }
    after [0x02] s = { s with diag := [⟨.writeUnusable, 0xFEA5, 0x07⟩] } := by decide

/-- V-LD 9, 10: POP AF at the top of memory masks F and wraps SP; PUSH AF (R213, R214). -/
theorem test_push_pop_af :
    (let t := after [0xF1] (memWrite 0xFFFE 0xFF (memWrite 0xFFFF 0xAB (regs id)))
     t.cpu.a = 0xAB ∧ t.cpu.f = 0xF0 ∧ t.cpu.sp = 0x0000) ∧
    (let t := after [0xF5] (regs fun r => { r with sp := 0xD000, a := 0x12, f := 0xF0 })
     readByte t 0xCFFF = 0x12 ∧ readByte t 0xCFFE = 0xF0 ∧ t.cpu.sp = 0xCFFE) := by decide

/-- R211's corner: SP = 0x0001 pushes the high byte to 0x0000, an MBC1 RAM enable, and the low byte to IE. -/
theorem test_push_wraps :
    let t := after [0xC5] (regs fun r => { r with sp := 0x0001, b := 0x0A, c := 0x34 })
    t.mmu.ramEnabled = true ∧ t.mmu.ie = 0x34 ∧ t.cpu.sp = 0xFFFF := by decide

/-- V-LD 11 to 15, 18: absolute and high-page forms (R215 to R220, R95). -/
theorem test_absolute_and_high_page :
    readByte (after [0xEA, 0x00, 0xC1] (regs fun r => { r with a := 0x66 })) 0xC100 = 0x66 ∧
    readByte (after [0xE0, 0x45] (regs fun r => { r with a := 0x3C })) 0xFF45 = 0x3C ∧
    (after [0xF0, 0x44] (setSlot 0x44 0x90 (regs id))).cpu.a = 0x90 ∧
    readByte (after [0xE2] (regs fun r => { r with c := 0x80, a := 0x11 })) 0xFF80 = 0x11 ∧
    (after [0xF2] (regs id)).cpu.a = 0xFF ∧ (after [0xF2] (regs fun r => { r with c := 0x70 })).cpu.a = 0xF9 ∧
    (after [0xFA, 0x4F, 0xFF] (regs id)).cpu.a = 0xFE ∧
    (after [0xEA, 0x00, 0x20] (regs fun r => { r with a := 0x55 })).mmu.romBankLow = 0x15 := by decide

/-- V-LD 16 and R221's corner: `LD (a16),SP` at 0xC100 and across the top of memory. -/
theorem test_store_sp :
    (let t := after [0x08, 0x00, 0xC1] (regs fun r => { r with sp := 0xFFF8 })
     readByte t 0xC100 = 0xF8 ∧ readByte t 0xC101 = 0xFF) ∧
    (let t := after [0x08, 0xFF, 0xFF] (regs fun r => { r with sp := 0x0A12 })
     t.mmu.ie = 0x12 ∧ t.mmu.ramEnabled = true) := by decide

/-- V-A16: INC rr, DEC rr. -/
theorem test_pair_inc_dec :
    (let t := after [0x03] (regs fun r => { r with b := 0xFF, c := 0xFF, f := 0xF0 }); t.cpu.bc = 0 ∧ t.cpu.f = 0xF0) ∧
    (after [0x1B] (regs id)).cpu.de = 0xFFFF ∧ (after [0x33] (regs id)).cpu.sp = 0xFFFF := by decide

/-- V-A16: ADD HL,rr, Z kept. -/
theorem test_add_hl :
    (let t := after [0x09] (regs fun r => { r with h := 0x8A, l := 0x23, b := 0x06, c := 0x05 })
     t.cpu.hl = 0x9028 ∧ t.cpu.f = 0x20) ∧
    (let t := after [0x29] (regs fun r => { r with h := 0x8A, l := 0x23 }); t.cpu.hl = 0x1446 ∧ t.cpu.f = 0x30) ∧
    (let t := after [0x19] (regs fun r => { r with h := 0x0F, l := 0xFF, e := 0x01, f := 0x80 })
     t.cpu.hl = 0x1000 ∧ t.cpu.f = 0xA0) ∧
    (let t := after [0x39] (regs fun r => { r with h := 0xFF, l := 0xFF, sp := 0x0001 }); t.cpu.hl = 0 ∧ t.cpu.f = 0x30) := by
  decide

/-- V-A16: ADD SP,e8 and LD HL,SP+e8: (SP, e, result, F out). -/
theorem test_add_sp :
    ([(0xFFF8, 0x08, 0x0000, 0x30), (0x0000, 0xFF, 0xFFFF, 0x00), (0x0001, 0xFF, 0x0000, 0x30), (0xD000, 0xFE, 0xCFFE, 0x00),
      (0x00FF, 0x01, 0x0100, 0x30), (0x1234, 0x80, 0x11B4, 0x00), (0xFFFE, 0x7F, 0x007D, 0x30)] :
      List (Word × Byte × Word × Byte)).all (fun (sp, e, n, f) =>
        let s := regs fun r => { r with sp := sp, f := 0xF0 }
        let t := after [0xE8, e] s
        let u := after [0xF8, e] s
        t.cpu.sp == n && t.cpu.f == f && u.cpu.hl == n && u.cpu.f == f && u.cpu.sp == sp) = true := by decide

/-- V-CTL 2 to 4: JP cc and JP (HL); PC is past the instruction when it executes. -/
theorem test_jp :
    (after [0xC3, 0x00, 0x02] (regs fun r => { r with pc := 0x0153 })).cpu.pc = 0x0200 ∧
    (after [0xCA, 0x00, 0x02] (regs fun r => { r with pc := 0x0153 })).cpu.pc = 0x0153 ∧
    (after [0xDA, 0x00, 0x02] (regs fun r => { r with pc := 0x0153, f := 0x10 })).cpu.pc = 0x0200 ∧
    (after [0xE9] (regs fun r => { r with h := 0xC0 })).cpu.pc = 0xC000 := by decide

/-- V-CTL 5 to 9 and 18: JR and JR cc. -/
theorem test_jr :
    (after [0x18, 0xFE] (regs fun r => { r with pc := 0x0202 })).cpu.pc = 0x0200 ∧
    (after [0x18, 0x80] (regs fun r => { r with pc := 0x0202 })).cpu.pc = 0x0182 ∧
    (after [0x20, 0xFB] (regs fun r => { r with pc := 0x0207 })).cpu.pc = 0x0202 ∧
    (after [0x38, 0xFB] (regs fun r => { r with pc := 0x0207 })).cpu.pc = 0x0207 ∧
    (after [0x18, 0x01] (regs fun r => { r with pc := 0xFFFF })).cpu.pc = 0x0000 := by decide

/-- V-CTL 10, 11, 16: CALL, CALL NZ not taken, RST 0x38. -/
theorem test_call_rst :
    (let t := after [0xCD, 0x00, 0x02] (regs fun r => { r with pc := 0x0153, sp := 0xD000 })
     readByte t 0xCFFF = 0x01 ∧ readByte t 0xCFFE = 0x53 ∧ t.cpu.sp = 0xCFFE ∧ t.cpu.pc = 0x0200) ∧
    (let s := regs fun r => { r with pc := 0x0153, sp := 0xD000, f := 0x80 }; after [0xC4, 0x00, 0x02] s = s) ∧
    (let t := after [0xFF] (regs fun r => { r with pc := 0x0201, sp := 0xD000 })
     readByte t 0xCFFF = 0x02 ∧ readByte t 0xCFFE = 0x01 ∧ t.cpu.pc = 0x0038) := by decide

/-- V-CTL 12 to 15: RET, RET NC not taken, RETI under FULL and under NONE. -/
theorem test_returns :
    let s := memWrite 0xCFFE 0x53 (memWrite 0xCFFF 0x01 (regs fun r => { r with pc := 0x0201, sp := 0xCFFE, f := 0x10 }))
    (let t := after [0xC9] s; t.cpu.pc = 0x0153 ∧ t.cpu.sp = 0xD000 ∧ t.cpu.ime = false) ∧ after [0xD0] s = s ∧
    (let t := after [0xD9] s; t.cpu.pc = 0x0153 ∧ t.cpu.ime = true) ∧
    (let t := after [0xD9] { s with config := Config.baseline }; t.cpu.pc = 0x0153 ∧ t.cpu.ime = false) := by decide

/-- V-SYS 2 to 5: HALT under NONE, STOP, an illegal opcode, through steps. -/
theorem test_system :
    (let t := stepped (running Config.baseline [0x76] id); t.cpu.pc = 0xC001 ∧ t.cpu.halted = false) ∧
    (let t := stepped (running hostStepped [0x76] id); t.cpu.pc = 0xC001 ∧ t.cpu.halted = true) ∧
    (stepped (running hostStepped [0x10, 0x00] id)).cpu.pc = 0xC002 ∧
    (let t := stepped (running hostStepped [0xD3] id); t.cpu.pc = 0xC001 ∧ t.diag = [⟨.unknownOpcode, 0xC000, 0xD3⟩]) := by
  decide

/-- R364, R365: DI and EI under FULL. -/
theorem test_di_ei :
    (let t := after [0xF3] (regs fun r => { r with ime := true, imeScheduled := true })
     t.cpu.ime = false ∧ t.cpu.imeScheduled = false) ∧
    (let t := after [0xFB] (regs id); t.cpu.ime = false ∧ t.cpu.imeScheduled = true) := by decide

/-- V-IRQ: IE = 0x1F and IF = 0x05 with IME: VBlank is serviced, PC and the stack as R442 says, IF bit 2 still pending. -/
theorem test_interrupt_service :
    let s := setSlot 0x0F 0x05 (regs fun r => { r with ime := true, pc := 0x0200, sp := 0xD000 })
    let t := stepped { s with mmu := { s.mmu with ie := 0x1F } }
    t.cpu.pc = 0x0040 ∧ readByte t 0xCFFF = 0x02 ∧ readByte t 0xCFFE = 0x00 ∧ t.cpu.sp = 0xCFFE ∧
      readByte t 0xFF0F = 0x04 ∧ t.cpu.ime = false := by decide

/-- V-IRQ 5 to 7: EI, then NOP with IME already true, then the service of VBlank with PC = start + 2. -/
theorem test_ei_delay :
    let s := setSlot 0x0F 0x01 (running hostStepped [0xFB, 0x00] fun r => { r with sp := 0xD000 })
    let t := stepped { s with mmu := { s.mmu with ie := 0x01 } }
    let u := stepped t
    let v := stepped u
    t.cpu.ime = false ∧ t.cpu.imeScheduled = true ∧ u.cpu.ime = true ∧ u.cpu.pc = 0xC002 ∧
    v.cpu.pc = 0x0040 ∧ readByte v 0xCFFF = 0xC0 ∧ readByte v 0xCFFE = 0x02 := by decide

/-- V-IRQ 10: a halted CPU wakes with IME false and executes the instruction at PC, here INC B. -/
theorem test_halt_wakes :
    let s := setSlot 0x0F 0x04 (running hostStepped [0x04] fun r => { r with halted := true })
    let t := stepped { s with mmu := { s.mmu with ie := 0x04 } }
    t.cpu.halted = false ∧ t.cpu.pc = 0xC001 ∧ t.cpu.b = 0x01 := by decide

/-- R491: after a NOP (1 cycle) the PPU has advanced by 4 dots and DIV's accumulator by 1 under TABLE, and not under HOST. -/
theorem test_run_tail :
    (let t := stepped (setSlot 0x40 0x80 (running Config.complete [0x00] id)); t.ppu.dot = 4 ∧ t.timer.divAcc = 1) ∧
    (let t := stepped (setSlot 0x40 0x80 (running hostStepped [0x00] id)); t.ppu.dot = 0 ∧ t.timer.divAcc = 0) := by decide

/-- V-JOY 1: slot 0x00 with Right (0) and Start (7) pressed; a refresh stores 0xC6, and a read still gives 0xC6. -/
theorem test_update_register :
    let s := updateRegister { setSlot 0x00 0x00 (booted hostStepped) with pressedMask := 0x81 }
    slot s 0x00 = 0xC6 ∧ readByte s 0xFF00 = 0xC6 := by decide

/-- Scenario 3 (E3): TAC = 0x05, TMA = 0, TIMA = 0xFE. -/
theorem test_timer_overflow :
    let s := setSlot 0x05 0xFE (setSlot 0x07 0x05 (booted Config.baseline))
    let t := timerStep 16 (timerStep 16 s)
    readByte (timerStep 16 s) 0xFF05 = 0xFF ∧ readByte t 0xFF05 = 0x00 ∧ readByte t 0xFF0F = 0x04 ∧
      readByte (timerStep 256 t) 0xFF04 = 0x01 := by decide

/-- Scenario 4 (E4), its first call, and V-PPU: a line of 114 cycles; mode 2 shows in STAT. -/
theorem test_ppu_line :
    let t := ppuStep 114 (setSlot 0x40 0x80 (booted Config.baseline))
    readByte t 0xFF44 = 0x01 ∧ t.ppu.dot = 0 ∧ readByte t 0xFF41 = 0x02 := by decide

/-- Entering line 144 requests VBlank (R462). -/
theorem test_ppu_vblank :
    let s := setSlot 0x40 0x80 (booted Config.baseline)
    let t := ppuStep 114 { s with ppu := { dot := 0, ly := 143, mode := .oamSearch, vblankLatched := false } }
    readByte t 0xFF44 = 0x90 ∧ readByte t 0xFF41 &&& 0x03 = 0x01 ∧ readByte t 0xFF0F = 0x01 := by decide

/-- Scenario 5 (E5): bank switching; writing 0 selects bank 1, and 4 modulo 4 becomes 1. -/
theorem test_mbc1_banks :
    let bank (v : Byte) := effRomBank (memWrite 0x2000 v (booted Config.baseline))
    bank 0x02 = 2 ∧ bank 0x03 = 3 ∧ bank 0x00 = 1 ∧ bank 0x04 = 1 ∧ bank 0x22 = 2 := by decide

/-- Scenario 6 (E6): the joypad overlay. -/
theorem test_joypad :
    let s := memWrite 0xFF00 0x20 (booted Config.baseline)
    readByte (booted Config.baseline) 0xFF00 = 0xFF ∧ readByte s 0xFF00 = 0xEF ∧
      readByte (setButton 4 true s) 0xFF00 = 0xEE ∧ readByte (setButton 2 true (memWrite 0xFF00 0x10 s)) 0xFF00 = 0xDB := by
  decide

/-- The vectors I1 to I5 of E7. -/
theorem test_memory :
    let s := booted Config.baseline
    readByte (memWrite 0xDFFF 0xA5 s) 0xDFFF = 0xA5 ∧ readByte (memWrite 0xE123 0x77 s) 0xC123 = 0x77 ∧
    readByte (memWrite 0xFDFF 0x42 s) 0xDDFF = 0x42 ∧ readByte s 0xFEA0 = 0xFF ∧ readByte s 0x0147 = 0x03 ∧
    readByte (memWrite 0xFF04 0xFF (setSlot 0x04 0x37 s)) 0xFF04 = 0x00 := by decide

/-- The state a table word is placed in from reset is the state after loading the image of those bytes at 0x0100, and the
console reset (notes/assumptions/4.md). -/
theorem test_withFetchWord_is_a_load :
    State.reset.withFetchWord 8 0x3C =
      consoleReset (loadRom (some (List.replicate 0x100 0x00 ++ [0x3C, 0x00, 0x00])) State.reset).1 := by decide +kernel

/-- And the next step runs it: INC A as the first instruction after reset. -/
theorem test_withFetchWord_runs :
    let t := stepped (State.reset.withFetchWord 8 0x3C)
    t.cpu.a = 0x01 ∧ t.cpu.pc = 0x0101 := by decide

/-! ### Witnesses: the hypotheses of each statement can be met, clause by clause -/

/-- The invariant holds of the booted machine of these tests. -/
theorem witness_Inv : Inv (booted hostStepped) := by constructor <;> decide

/-- A booted machine with a byte pattern placed at 0xC000 and some registers. -/
def patterned (f : Cpu → Cpu) : State := placeBytes 0xC000 [0xFB, 0xF3, 0x76, 0x12] (regs f)

theorem witness_DecodeEncode : WellFormed (.jpNZ_a16 0x8000) = true ∧ WellFormed .bit7_HLm = true := by decide

/-- A three-byte instruction with a byte left over, and STOP with and without its second byte. -/
theorem witness_EncodeDecode :
    decode [0xC3, 0x50, 0x01, 0x99] = .ok (.jp_a16 0x0150, [0x99]) ∧ Instr.jp_a16 0x0150 ≠ .prefixCb ∧
    decode [0x10, 0x77, 0x99] = .ok (.stop, [0x99]) ∧ decode [0x10] = .ok (.stop, []) := ⟨rfl, by decide, rfl, rfl⟩

theorem witness_LoadRegister : ¬(R8.hlm = R8.hlm ∧ R8.a = R8.hlm) ∧ ¬(R8.b = R8.hlm ∧ R8.hlm = R8.hlm) := by decide

/-- At both ends of work RAM. -/
theorem witness_PushThenPop (sp : Word) (h : sp = 0xC002 ∨ sp = 0xE000) :
    let s := regs fun r => { r with sp := sp, b := 0x12, c := 0x34 }
    Inv s ∧ inRange 0xC000 0xDFFF (s.cpu.sp - 1) ∧ inRange 0xC000 0xDFFF (s.cpu.sp - 2) ∧
    ∃ t, Executes [0xC5 + 16 * field Rp2.bc.index] s t ∧ ∃ u, Executes [0xC1 + 16 * field Rp2.bc.index] t u := by
  rcases h with rfl | rfl <;>
    exact ⟨by constructor <;> decide, ⟨by decide, by decide⟩, ⟨by decide, by decide⟩, _, ⟨_, rfl, rfl⟩, _, ⟨_, rfl, rfl⟩⟩

/-- 99 + 99 and 00 − 99. -/
theorem witness_DecimalArithmetic :
    (let s := regs fun r => { r with a := 0x99, b := 0x99 }
     isDecimal s.cpu.a ∧ isDecimal s.cpu.b ∧ ∃ t, Executes [0x80] s t ∧ ∃ u, Executes [0x27] t u) ∧
    (let s := regs fun r => { r with a := 0x00, b := 0x99 }
     isDecimal s.cpu.a ∧ isDecimal s.cpu.b ∧ ∃ t, Executes [0x90] s t ∧ ∃ u, Executes [0x27] t u) :=
  ⟨⟨⟨by decide, by decide⟩, ⟨by decide, by decide⟩, _, ⟨_, rfl, rfl⟩, _, ⟨_, rfl, rfl⟩⟩,
   ⟨⟨by decide, by decide⟩, ⟨by decide, by decide⟩, _, ⟨_, rfl, rfl⟩, _, ⟨_, rfl, rfl⟩⟩⟩

theorem witness_CbUnimplemented : (booted Config.baseline).config.cbImpl = .unimplemented := by decide

/-- For CbRotates (through `RotRuns`) and CbBits. -/
theorem witness_CbRotates_CbBits : (booted hostStepped).config.cbImpl = .full := by decide

theorem witness_PrefixCb :
    let s := patterned fun r => { r with pc := 0xC000 }
    decode [0xCB, readByte s s.cpu.pc] = .ok (.set7_E, []) := rfl

/-- An instruction with a next state, a register it does not write, and one it does. -/
theorem witness_RegisterFrame :
    (∃ t, exec .popAF (booted hostStepped) = .next t) ∧ RegName.b ∉ writtenRegs Instr.popAF.form ∧
      RegName.sp ∈ writtenRegs Instr.popAF.form := ⟨⟨_, rfl⟩, by decide, by decide⟩

theorem witness_FlagFrame :
    (∃ t, exec .daa (booted hostStepped) = .next t) ∧ FlagName.n ∉ writtenFlags Instr.daa.form := ⟨⟨_, rfl⟩, by decide⟩

/-- An instruction that neither transfers control nor touches the interrupt state; EI where the interrupt state is absent. -/
theorem witness_ControlFrame :
    (∃ t, exec .incB (booted hostStepped) = .next t) ∧ writesPc Instr.incB.form = false ∧
    writesInterruptState Instr.incB.form = false ∧ (∃ t, exec .ei (booted Config.baseline) = .next t) ∧
    (booted Config.baseline).config.irqImpl = .none := ⟨⟨_, rfl⟩, by decide, by decide, ⟨_, rfl⟩, by decide⟩

/-- For MachineFrame, and the first clause of MemoryFrame: an instruction that stores nothing. -/
theorem witness_MachineFrame :
    WellFormed .bit7_HLm = true ∧ (∃ t, exec .bit7_HLm (booted hostStepped) = .next t) ∧
    storedByte Instr.bit7_HLm.form (booted hostStepped) = none ∧ storedWord Instr.bit7_HLm.form (booted hostStepped) = none :=
  ⟨by decide, ⟨_, rfl⟩, by decide, by decide⟩

/-- A store to work RAM reaches only its own place. -/
theorem not_storeReaches_wram {s : State} {a x : Word} {k : Nat} (ha : locate s a = .wram k) (hx : locate s x ≠ .wram k) :
    ¬ storeReaches s a x := by
  unfold storeReaches
  rw [ha]
  exact hx

/-- A store where external RAM does not answer reaches nothing. -/
theorem not_storeReaches_noEram {s : State} {a x : Word} (ha : locate s a = .noEram) : ¬ storeReaches s a x := by
  unfold storeReaches
  rw [ha]
  exact id

/-- The second clause of MemoryFrame: a store to work RAM at 0xDFFF, and the addresses around it and its echo's end. -/
theorem witness_MemoryFrame_byte :
    let s := regs fun r => { r with h := 0xDF, l := 0xFF }
    (∃ t, exec .ldHLm_B s = .next t) ∧ storedByte Instr.ldHLm_B.form s = some 0xDFFF ∧ ¬ storeReaches s 0xDFFF 0xDFFE ∧
      ¬ storeReaches s 0xDFFF 0xE000 := 
  ⟨⟨_, rfl⟩, by decide,
   not_storeReaches_wram (k := 0x1FFF) (by decide +kernel) (by decide +kernel), not_storeReaches_wram (k := 0x1FFF) (by decide +kernel) (by decide +kernel)⟩

/-- The third clause of MemoryFrame: a push, at the edge of work RAM. -/
theorem witness_MemoryFrame_word :
    let s := regs fun r => { r with sp := 0xC001, b := 0x12, c := 0x34 }
    (∃ t, exec .pushBC s = .next t) ∧ storedWord Instr.pushBC.form s = some ((0xC000, 0x12), (0xBFFF, 0x34)) ∧
      ¬ storeReaches s 0xC000 0xC001 ∧ ¬ storeReaches (memWrite 0xC000 0x12 s) 0xBFFF 0xC001 :=
  ⟨⟨_, rfl⟩, by decide,
   not_storeReaches_wram (k := 0) (by decide +kernel) (by decide +kernel), not_storeReaches_noEram (by decide +kernel)⟩

/-- Both banks' ends; the last byte of the image, and the first past it. -/
theorem witness_ReadRom :
    (0x3FFF : Word).toNat < 0x8000 ∧ (0x4000 : Word).toNat < 0x8000 ∧ (0x7FFF : Word).toNat < 0x8000 ∧
    (memRead (booted hostStepped) 0x7FFF).1 = 0x00 ∧
    (memRead (memWrite 0x2000 0x02 (booted hostStepped)) 0x4000).2.diag = [⟨.readPastRom, 0x4000, 0xFF⟩] := by decide

/-- The ends of every range of ReadRam, ReadVideoAndIo, WriteRam and WriteDiscarded. -/
theorem witness_ReadRam_ReadVideoAndIo_WriteRam :
    (inRange 0x8000 0x9FFF 0x8000 ∧ inRange 0x8000 0x9FFF 0x9FFF) ∧ (inRange 0xA000 0xBFFF 0xA000 ∧ inRange 0xA000 0xBFFF 0xBFFF) ∧
    (inRange 0xC000 0xCFFF 0xC000 ∧ inRange 0xC000 0xCFFF 0xCFFF) ∧ (inRange 0xD000 0xDFFF 0xD000 ∧ inRange 0xD000 0xDFFF 0xDFFF) ∧
    (inRange 0xE000 0xFDFF 0xE000 ∧ inRange 0xE000 0xFDFF 0xFDFF) ∧ (inRange 0xFE00 0xFE9F 0xFE00 ∧ inRange 0xFE00 0xFE9F 0xFE9F) ∧
    (inRange 0xFEA0 0xFEFF 0xFEA0 ∧ inRange 0xFEA0 0xFEFF 0xFEFF) ∧ (inRange 0xFF80 0xFFFE 0xFF80 ∧ inRange 0xFF80 0xFFFE 0xFFFE) := by
  unfold inRange
  decide

/-- External RAM that does not answer, and one that does, for ReadRam, WriteDiscarded and WriteEramAndIo. -/
theorem witness_ReadRam_WriteEramAndIo_external :
    (booted hostStepped).mmu.ramEnabled = false ∧
    (let s := memWrite 0x0000 0x0A (booted hostStepped); s.cart.numRamBanks ≠ 0 ∧ s.mmu.ramEnabled = true) := by decide

/-- The ends of the I/O range and the slots beside the overlays, for ReadVideoAndIo and WriteEramAndIo. -/
theorem witness_ReadVideoAndIo_WriteEramAndIo (x : Word) (h : x = 0xFF01 ∨ x = 0xFF7F ∨ x = 0xFF4E ∨ x = 0xFF71) :
    inRange 0xFF00 0xFF7F x ∧ x ≠ 0xFF00 ∧ x ≠ 0xFF04 ∧ x ≠ 0xFF46 ∧ x ≠ 0xFF4F ∧ x ≠ 0xFF70 := by
  unfold inRange
  rcases h with rfl | rfl | rfl | rfl <;> decide

/-- The ends of the selector ranges, on an MBC1 cartridge. -/
theorem witness_WriteCartControl :
    (inRange 0x0000 0x1FFF 0x0000 ∧ inRange 0x0000 0x1FFF 0x1FFF) ∧ (inRange 0x2000 0x3FFF 0x2000 ∧ inRange 0x2000 0x3FFF 0x3FFF) ∧
    (inRange 0x4000 0x5FFF 0x4000 ∧ inRange 0x4000 0x5FFF 0x5FFF) ∧ (inRange 0x6000 0x7FFF 0x6000 ∧ inRange 0x6000 0x7FFF 0x7FFF) ∧
    (booted hostStepped).cart.cartType = 0x03 := by
  unfold inRange
  decide

/-- A cartridge without MBC1. -/
theorem witness_WriteDiscarded :
    (0x7FFF : Word).toNat < 0x8000 ∧ State.reset.cart.cartType ≠ 0x01 ∧ State.reset.cart.cartType ≠ 0x02 ∧
    State.reset.cart.cartType ≠ 0x03 := by decide

/-- For OamDma: the first and the last bytes copied, and addresses outside. -/
theorem witness_OamDma :
    Inv (booted hostStepped) ∧ 0 < 160 ∧ 159 < 160 ∧ ¬ inRange 0xFE00 0xFE9F 0xFDFF ∧ ¬ inRange 0xFE00 0xFE9F 0xFEA0 := by
  refine ⟨witness_Inv, ?_⟩
  unfold inRange
  decide

/-- Each kind of address, at its ends. -/
theorem witness_StoredByteReadsBack :
    let s := memWrite 0x0000 0x0A (booted hostStepped)
    Inv s ∧ inRange 0xC000 0xFE9F 0xE000 ∧ inRange 0xC000 0xFE9F 0xFE9F ∧ inRange 0xFF80 0xFFFF 0xFFFF ∧
    (inRange 0xA000 0xBFFF 0xBFFF ∧ s.cart.numRamBanks ≠ 0 ∧ s.mmu.ramEnabled = true) ∧
    (inRange 0xFF01 0xFF7F 0xFF46 ∧ (0xFF46 : Word) ≠ 0xFF04 ∧ (0xFF46 : Word) ≠ 0xFF4F ∧ (0xFF46 : Word) ≠ 0xFF70) := by
  refine ⟨by constructor <;> decide, ?_⟩
  unfold inRange
  decide

theorem witness_PpuOff : Inv (booted hostStepped) ∧ (slot (booted hostStepped) 0x40).getLsbD 7 = false :=
  ⟨witness_Inv, by decide⟩

/-- Line 143 with the LCD on. -/
def line143 : State :=
  { setSlot 0x40 0x80 (booted hostStepped) with ppu := { dot := 0, ly := 143, mode := .oamSearch, vblankLatched := false } }

/-- 113 cycles stay on the line; 114 enter line 144. -/
theorem witness_PpuOn :
    Inv line143 ∧ (slot line143 0x40).getLsbD 7 = true ∧
    (∃ k, 1 ≤ k ∧ k ≤ (line143.ppu.dot + 4 * 114) / 456 ∧ (line143.ppu.ly + k) % 154 = 144) ∧
    (∀ k, 1 ≤ k → k ≤ (line143.ppu.dot + 4 * 113) / 456 → (line143.ppu.ly + k) % 154 ≠ 144) :=
  ⟨by constructor <;> decide, by decide, ⟨1, by decide⟩, fun k h1 h2 => absurd (Nat.le_trans h1 h2) (by decide)⟩

theorem witness_TimerDiv : Inv (booted hostStepped) ∧ (0x04 : Nat) ≠ 0x05 := ⟨witness_Inv, by decide⟩

/-- TAC off; TAC on with one overflow, and with none. -/
theorem witness_TimerTima :
    (slot (booted hostStepped) 0x07).getLsbD 2 = false ∧
    (let s := setSlot 0x05 0xFF (setSlot 0x07 0x05 (booted hostStepped))
     Inv s ∧ (slot s 0x07).getLsbD 2 = true ∧
       (∃ j, j < (s.timer.timaAcc + 16) / 16 ∧ timaAfter (slot s 0x06) j (slot s 0x05) = 0xFF) ∧
       ¬ ∃ j, j < (s.timer.timaAcc + 15) / 16 ∧ timaAfter (slot s 0x06) j (slot s 0x05) = 0xFF) :=
  ⟨by decide, by constructor <;> decide, by decide, ⟨0, by decide⟩, fun ⟨_, h, _⟩ => absurd h (Nat.not_lt_zero _)⟩

theorem witness_Joypad : Inv (setButton 4 true (booted hostStepped)) := by constructor <;> decide

/-- An image with a header, one without, and the two that fail. -/
theorem witness_LoadRom :
    (List.replicate 0x150 (0 : Byte)).length ≠ 0 ∧ (List.replicate 0x150 (0 : Byte)).length ≥ 0x150 ∧
    (List.replicate 0x14F (0 : Byte)).length ≠ 0 ∧ (List.replicate 0x14F (0 : Byte)).length < 0x150 := by
  simp only [List.length_replicate]
  decide

/-- HALT, with a pending EI. -/
theorem witness_StepRunsDecodedInstruction :
    let s := patterned fun r => { r with pc := 0xC002, imeScheduled := true }
    s.stage = .runnable ∧ ¬ willService s ∧ ¬ willIdle s ∧
    readByte s s.cpu.pc = 0x76 ∧ readByte s (s.cpu.pc + 1) = 0x12 ∧ readByte s (s.cpu.pc + 2) = 0x00 ∧
    decode [0x76, 0x12, 0x00] = .ok (.halt, [0x12, 0x00]) :=
  ⟨by decide, fun h => absurd h.2.1 (by decide), fun h => absurd h.2.1 (by decide), by decide, by decide, by decide, rfl⟩

/-- Two pending interrupts, at the ends of the five. -/
theorem witness_InterruptService :
    let s := setSlot 0x0F 0x11 (regs fun r => { r with ime := true, sp := 0xD000 })
    let s := { s with mmu := { s.mmu with ie := 0xFF } }
    Inv s ∧ s.stage = .runnable ∧ willService s := ⟨by constructor <;> decide, by decide, by decide, by decide, by decide⟩

theorem witness_HaltIdles :
    let s := regs fun r => { r with halted := true }
    s.stage = .runnable ∧ willIdle s := ⟨by decide, by decide, by decide, by decide⟩

/-- With an interrupt pending and enabled, before EI; DI and before EI; HALT. -/
theorem witness_EiDelay (b : Byte) (hb : b = 0xF3 ∨ b = 0x76) :
    let s := setSlot 0x0F 0x01 (placeBytes 0xC000 [0xFB, b] (regs fun r => { r with pc := 0xC000 }))
    let s := { s with mmu := { s.mmu with ie := 0x01 } }
    s.config.irqImpl = .full ∧ s.cpu.ime = false ∧ s.cpu.imeScheduled = false ∧ s.cpu.halted = false ∧
    readByte s s.cpu.pc = 0xFB ∧ readByte s (s.cpu.pc + 1) = b ∧ s.mmu.ie &&& slot s 0x0F &&& 0x1F ≠ 0 := by
  rcases hb with rfl | rfl <;> decide

theorem witness_StepNeverStops : (booted hostStepped).stage = .runnable ∧ State.reset.stage ≠ .runnable := by decide

theorem witness_StepKeepsInv : Inv (booted hostStepped) ∧ ∃ t, step (booted hostStepped) = .next t := ⟨witness_Inv, _, rfl⟩

theorem witness_HostKeepsInv :
    ∃ t reply, hostAct (.setButton 3 true) (booted hostStepped) = .next (t, reply) := ⟨_, _, rfl⟩


end Sys2Proof.Tests
end

section
/-! PROOFS. The frame of an instruction: what its meaning may change, built up from the frames of the shared operations. -/

namespace Sys2Proof.Machine

/-! ### The registers and flags an update leaves alone -/

theorem RegName.value_congr {s t : State} (h : t.cpu = s.cpu) (q : RegName) : q.value t = q.value s := by
  cases q <;> simp only [RegName.value, h]

theorem FlagName.value_congr {s t : State} (h : t.cpu.f = s.cpu.f) (q : FlagName) : q.value t = q.value s := by
  cases q <;> simp only [FlagName.value, flagZ, flagN, flagH, flagC, h]

theorem RegName.value_setA {q : RegName} (hq : q ≠ .a) (v : Byte) (s : State) : q.value (setA v s) = q.value s := by
  cases q with
  | a => exact absurd rfl hq
  | _ => rfl

theorem RegName.value_setSp {q : RegName} (hq : q ≠ .sp) (v : Word) (s : State) : q.value (setSp v s) = q.value s := by
  cases q with
  | sp => exact absurd rfl hq
  | _ => rfl

theorem RegName.value_setRp {q : RegName} {p : Rp} (hq : q ∉ regsOfRp p) (v : Word) (s : State) :
    q.value (setRp p v s) = q.value s := by
  revert hq
  cases p <;> cases q <;> simp [regsOfRp, setRp, RegName.value]

theorem RegName.value_setRp2 {q : RegName} {p : Rp2} (hq : q ∉ regsOfRp2 p) (v : Word) (s : State) :
    q.value (setRp2 p v s) = q.value s := by
  revert hq
  cases p <;> cases q <;> simp [regsOfRp2, setRp2, RegName.value]

theorem RegName.value_writeR8 {q : RegName} {r : R8} (hq : q ∉ regsOfR8 r) (v : Byte) (s : State) :
    q.value (writeR8 r v s) = q.value s := by
  revert hq
  cases r <;> cases q <;> simp [regsOfR8, writeR8, RegName.value]

theorem FlagName.mem_all (q : FlagName) : q ∈ [FlagName.z, .n, .h, .c] := by
  cases q <;> decide

/-- The value `setFlags` is given for a flag. -/
def FlagName.select (z n h c : Option Bool) : FlagName → Option Bool
  | .z => z
  | .n => n
  | .h => h
  | .c => c

/-- `-` keeps a flag (R13). -/
theorem FlagName.value_setFlags (q : FlagName) (z n h c : Option Bool) (s : State) :
    q.value (setFlags z n h c s) = (q.select z n h c).getD (q.value s) := by
  cases q <;> simp [FlagName.value, FlagName.select]

/-! ### The frame -/

/-- What an execution that may write the registers `rs` and the flags `fs` does to the machine: it keeps every other register and
flag (R33, R38), F's low nibble (R31), the interrupt control state under `IRQ_IMPL = NONE` (R39), everything that is neither CPU
nor memory unit (R125), and the invariant of the memory unit. -/
structure Frame (rs : List RegName) (fs : List FlagName) (s t : State) : Prop where
  config : t.config = s.config
  cart : t.cart = s.cart
  ppu : t.ppu = s.ppu
  timer : t.timer = s.timer
  pressedMask : t.pressedMask = s.pressedMask
  stage : t.stage = s.stage
  diag : s.diag <+: t.diag
  mmuInv : MmuInv s.cart s.mmu → MmuInv t.cart t.mmu
  regs : ∀ q, q ∉ rs → q.value t = q.value s
  flags : ∀ q, q ∉ fs → q.value t = q.value s
  flagsLow : t.cpu.f &&& 0x0F = 0 ∨ t.cpu.f = s.cpu.f
  interrupts : s.config.irqImpl = .none →
    t.cpu.ime = s.cpu.ime ∧ t.cpu.imeScheduled = s.cpu.imeScheduled ∧ t.cpu.halted = s.cpu.halted

namespace Frame

variable {rs : List RegName} {fs : List FlagName} {s t : State}

theorem refl (s : State) : Frame rs fs s s :=
  ⟨rfl, rfl, rfl, rfl, rfl, rfl, List.prefix_refl _, id, fun _ _ => rfl, fun _ _ => rfl, .inr rfl, fun _ => ⟨rfl, rfl, rfl⟩⟩

/-! ### The memory unit and the diagnostics -/

/-- The memory unit may change by any operation that keeps its invariant. -/
theorem sameOutsideMmu (h : Frame rs fs s t) {u : State} (d : SameOutsideMmu t u)
    (hm : MmuInv t.cart t.mmu → MmuInv u.cart u.mmu) : Frame rs fs s u where
  config := d.config.trans h.config
  cart := d.cart.trans h.cart
  ppu := d.ppu.trans h.ppu
  timer := d.timer.trans h.timer
  pressedMask := d.pressedMask.trans h.pressedMask
  stage := d.stage.trans h.stage
  diag := h.diag.trans d.diag
  mmuInv := hm ∘ h.mmuInv
  regs q hq := (q.value_congr d.cpu).trans (h.regs q hq)
  flags q hq := (q.value_congr (congrArg Cpu.f d.cpu)).trans (h.flags q hq)
  flagsLow := d.cpu ▸ h.flagsLow
  interrupts := d.cpu ▸ h.interrupts

theorem emit (h : Frame rs fs s t) (ds : List Diag) : Frame rs fs s (Machine.emit ds t) :=
  h.sameOutsideMmu (.of_emit t ds) id

theorem afterReadR8 (h : Frame rs fs s t) (r : R8) : Frame rs fs s (Machine.afterReadR8 r t) := by
  cases r with
  | hlm => exact h.emit _
  | _ => exact h

theorem memWrite (h : Frame rs fs s t) (a : Word) (v : Byte) : Frame rs fs s (Machine.memWrite a v t) :=
  h.sameOutsideMmu (memWrite_same a v t) fun hm => hm.memWrite a v

theorem setSlot (h : Frame rs fs s t) {k : Nat} (hk : k < ioSize) (v : Byte) : Frame rs fs s (Machine.setSlot k v t) :=
  h.sameOutsideMmu (.of_mmu t _) fun hm => hm.setSlot hk v

/-! ### The CPU -/

/-- The CPU may change within the lists. -/
theorem onlyCpu (h : Frame rs fs s t) {c : Cpu} (hr : ∀ q, q ∉ rs → q.value { t with cpu := c } = q.value t)
    (hf : ∀ q, q ∉ fs → q.value { t with cpu := c } = q.value t) (hl : c.f &&& 0x0F = 0 ∨ c.f = t.cpu.f)
    (hi : t.config.irqImpl = .none →
      c.ime = t.cpu.ime ∧ c.imeScheduled = t.cpu.imeScheduled ∧ c.halted = t.cpu.halted) :
    Frame rs fs s { t with cpu := c } :=
  { h with
    regs := fun q hq => (hr q hq).trans (h.regs q hq)
    flags := fun q hq => (hf q hq).trans (h.flags q hq)
    flagsLow := hl.elim .inl fun e => h.flagsLow.imp (fun g => (congrArg (· &&& 0x0F) e).trans g) e.trans
    interrupts := fun hn => by
      obtain ⟨hime, hsched, hhalt⟩ := hi (h.config ▸ hn)
      obtain ⟨hime', hsched', hhalt'⟩ := h.interrupts hn
      exact ⟨hime.trans hime', hsched.trans hsched', hhalt.trans hhalt'⟩ }

/-- A write of the registers other than F within the list. -/
theorem onlyRegs (h : Frame rs fs s t) {c : Cpu} (hr : ∀ q, q ∉ rs → q.value { t with cpu := c } = q.value t)
    (hf : c.f = t.cpu.f) (hi : c.ime = t.cpu.ime ∧ c.imeScheduled = t.cpu.imeScheduled ∧ c.halted = t.cpu.halted) :
    Frame rs fs s { t with cpu := c } :=
  h.onlyCpu hr (fun q _ => q.value_congr hf) (.inr hf) fun _ => hi

theorem setPc (h : Frame rs fs s t) (v : Word) : Frame rs fs s (Machine.setPc v t) :=
  h.onlyRegs (fun q _ => by cases q <;> rfl) rfl ⟨rfl, rfl, rfl⟩

theorem setSp (h : Frame rs fs s t) (hr : .sp ∈ rs) (v : Word) : Frame rs fs s (Machine.setSp v t) :=
  h.onlyRegs (fun _ hq => RegName.value_setSp (ne_of_mem_of_not_mem hr hq).symm v t) rfl ⟨rfl, rfl, rfl⟩

theorem setA (h : Frame rs fs s t) (hr : .a ∈ rs) (v : Byte) : Frame rs fs s (Machine.setA v t) :=
  h.onlyRegs (fun _ hq => RegName.value_setA (ne_of_mem_of_not_mem hr hq).symm v t) rfl ⟨rfl, rfl, rfl⟩

theorem setRp (h : Frame rs fs s t) {p : Rp} (hr : regsOfRp p ⊆ rs) (v : Word) : Frame rs fs s (Machine.setRp p v t) := by
  have hv : ∀ q, q ∉ rs → q.value (Machine.setRp p v t) = q.value t :=
    fun q hq => RegName.value_setRp (fun g => hq (hr g)) v t
  cases p <;> exact h.onlyRegs hv rfl ⟨rfl, rfl, rfl⟩

theorem writeR8 (h : Frame rs fs s t) {r : R8} (hr : regsOfR8 r ⊆ rs) (v : Byte) :
    Frame rs fs s (Machine.writeR8 r v t) := by
  have hv : ∀ q, q ∉ rs → q.value (Machine.writeR8 r v t) = q.value t :=
    fun q hq => RegName.value_writeR8 (fun g => hq (hr g)) v t
  cases r with
  | hlm => exact h.memWrite _ v
  | _ => exact h.onlyRegs hv rfl ⟨rfl, rfl, rfl⟩

/-- A write of a pair; that of AF writes every flag, and zeroes F's low nibble. -/
theorem setRp2 (h : Frame rs fs s t) {p : Rp2} (hr : regsOfRp2 p ⊆ rs) (hf : p = .af → [.z, .n, .h, .c] ⊆ fs) (v : Word) :
    Frame rs fs s (Machine.setRp2 p v t) := by
  have hv : ∀ q, q ∉ rs → q.value (Machine.setRp2 p v t) = q.value t :=
    fun q hq => RegName.value_setRp2 (fun g => hq (hr g)) v t
  cases p with
  | af =>
    have hlow : loByte v &&& 0xF0 &&& 0x0F = 0 := by rw [BitVec.and_assoc]; exact BitVec.and_zero
    exact h.onlyCpu hv (fun q hq => absurd (hf rfl q.mem_all) hq) (.inl hlow) fun _ => ⟨rfl, rfl, rfl⟩
  | _ => exact h.onlyRegs hv rfl ⟨rfl, rfl, rfl⟩

/-- A flag that is given a value is listed. -/
theorem setFlags (h : Frame rs fs s t) {z n hc c : Option Bool} (hz : z = none ∨ .z ∈ fs := by simp [writtenFlags])
    (hn : n = none ∨ .n ∈ fs := by simp [writtenFlags]) (hh : hc = none ∨ .h ∈ fs := by simp [writtenFlags])
    (hcy : c = none ∨ .c ∈ fs := by simp [writtenFlags]) : Frame rs fs s (Machine.setFlags z n hc c t) := by
  refine h.onlyCpu (fun q _ => by cases q <;> rfl) (fun q hq => ?_) (.inl (flagByte_low _ _ _ _)) fun _ => ⟨rfl, rfl, rfl⟩
  have hsel : q.select z n hc c = none := by
    cases q with
    | z => exact hz.resolve_right hq
    | n => exact hn.resolve_right hq
    | h => exact hh.resolve_right hq
    | c => exact hcy.resolve_right hq
  exact (q.value_setFlags z n hc c t).trans (by rw [hsel]; rfl)

/-- A list with every flag puts no condition on `setFlags`. -/
theorem setFlags_all (h : Frame rs fs s t) (hf : [.z, .n, .h, .c] ⊆ fs) (z n hc c : Option Bool) :
    Frame rs fs s (Machine.setFlags z n hc c t) :=
  h.setFlags (.inr (hf (by decide))) (.inr (hf (by decide))) (.inr (hf (by decide))) (.inr (hf (by decide)))

/-- The interrupt control state may change under `IRQ_IMPL = FULL`. -/
theorem interruptState (h : Frame rs fs s t) (hfull : s.config.irqImpl = .full) (ime scheduled halted : Bool) :
    Frame rs fs s { t with cpu := { t.cpu with ime := ime, imeScheduled := scheduled, halted := halted } } :=
  h.onlyCpu (fun q _ => by cases q <;> rfl) (fun q _ => by cases q <;> rfl) (.inr rfl) fun hn => by
    rw [h.config, hfull] at hn; cases hn

/-! ### The shared operations -/

theorem push16 (h : Frame rs fs s t) (hr : .sp ∈ rs) (v : Word) : Frame rs fs s (Machine.push16 v t) := by
  rw [push16_eq]
  exact ((h.memWrite _ _).memWrite _ _).setSp hr _

theorem callTo (h : Frame rs fs s t) (hr : .sp ∈ rs) (target : Word) : Frame rs fs s (Machine.callTo target t) :=
  (h.push16 hr _).setPc target

theorem pop16 (h : Frame rs fs s t) (hr : .sp ∈ rs) : Frame rs fs s (Machine.pop16 t).2 := by
  rw [pop16_eq]
  exact (h.emit _).setSp hr _

theorem returnPop (h : Frame rs fs s t) (hr : .sp ∈ rs) : Frame rs fs s (Machine.returnPop t) :=
  (h.pop16 hr).setPc _

theorem afterFetch (h : Frame rs fs s t) (n : Nat) : Frame rs fs s (Machine.afterFetch n t) :=
  (h.setPc _).emit _

theorem loadA (h : Frame rs fs s t) (hr : .a ∈ rs) (addr : Word) : Frame rs fs s (Machine.loadA addr t) :=
  (h.emit _).setA hr _

theorem indUpdate (h : Frame rs fs s t) {m : IndMode} (hr : regsOfMode m ⊆ rs) : Frame rs fs s (Machine.indUpdate m t) := by
  cases m with
  | bc | de => exact h
  | hlInc | hlDec => exact h.setRp (p := .hl) hr _

theorem ite {u : State} {p : Prop} [Decidable p] (ht : p → Frame rs fs s t) (hu : Frame rs fs s u) :
    Frame rs fs s (if p then t else u) := by
  by_cases hp : p
  · rw [if_pos hp]; exact ht hp
  · rwa [if_neg hp]

theorem aluOp (h : Frame rs fs s t) (op : AluOp) (hr : op ≠ .cp → .a ∈ rs) (hf : [.z, .n, .h, .c] ⊆ fs) (v : Byte) :
    Frame rs fs s (Machine.aluOp op v t) := by
  cases op with
  | cp => exact h.setFlags_all hf _ _ _ _
  | sub => exact (h.setFlags_all hf _ _ _ _).setA (hr nofun) _
  | _ => exact (h.setA (hr nofun) _).setFlags_all hf _ _ _ _

theorem rotA (h : Frame rs fs s t) (op : RotOp) (hr : .a ∈ rs) (hf : [.z, .n, .h, .c] ⊆ fs) : Frame rs fs s (Machine.rotA op t) :=
  (h.setA hr _).setFlags_all hf _ _ _ _

theorem rotReg (h : Frame rs fs s t) (op : RotOp) {r : R8} (hr : regsOfR8 r ⊆ rs) (hf : [.z, .n, .h, .c] ⊆ fs) :
    Frame rs fs s (Machine.rotReg op r t) :=
  ((h.afterReadR8 r).writeR8 hr _).setFlags_all hf _ _ _ _

theorem bitReg (h : Frame rs fs s t) (b : BitVec 3) (r : R8) (hf : [.z, .n, .h] ⊆ fs) :
    Frame rs fs s (Machine.bitReg b r t) :=
  (h.afterReadR8 r).setFlags (.inr (hf (by decide))) (.inr (hf (by decide))) (.inr (hf (by decide))) (.inl rfl)

theorem resReg (h : Frame rs fs s t) (b : BitVec 3) {r : R8} (hr : regsOfR8 r ⊆ rs) :
    Frame rs fs s (Machine.resReg b r t) :=
  (h.afterReadR8 r).writeR8 hr _

theorem setReg (h : Frame rs fs s t) (b : BitVec 3) {r : R8} (hr : regsOfR8 r ⊆ rs) :
    Frame rs fs s (Machine.setReg b r t) :=
  (h.afterReadR8 r).writeR8 hr _

theorem cbGate (h : Frame rs fs s t) {op : State → State} (hop : Frame rs fs s (op t)) (cbop : Byte) :
    Frame rs fs s (Machine.cbGate cbop op t) :=
  .ite (fun _ => hop) (h.emit _)

end Frame

/-- A register index selects a register other than SP. -/
theorem regsOfR8_subset_prefixCb (r : R8) : regsOfR8 r ⊆ writtenRegs .prefixCb := by
  cases r <;> decide

/-- A CB byte selects one of the four operations of the page (R400). -/
theorem cbOperation_cases (cbop : Byte) :
    (∃ op r, cbOperation cbop = rotReg op r) ∨ (∃ b r, cbOperation cbop = bitReg b r) ∨
      (∃ b r, cbOperation cbop = resReg b r) ∨ ∃ b r, cbOperation cbop = setReg b r := by
  unfold cbOperation
  split
  · exact .inl ⟨_, _, rfl⟩
  · exact .inr (.inl ⟨_, _, rfl⟩)
  · exact .inr (.inr (.inl ⟨_, _, rfl⟩))
  · exact .inr (.inr (.inr ⟨_, _, rfl⟩))

theorem prefixCb_frame (s : State) : Frame (writtenRegs .prefixCb) (writtenFlags .prefixCb) s (prefixCb s) := by
  have h := (Frame.refl (rs := writtenRegs .prefixCb) (fs := writtenFlags .prefixCb) s).afterFetch 1
  unfold prefixCb
  rw [fetch8_eq]
  refine h.cbGate ?_ _
  obtain ⟨op, r, e⟩ | ⟨b, r, e⟩ | ⟨b, r, e⟩ | ⟨b, r, e⟩ := cbOperation_cases (readByte s s.cpu.pc) <;> rw [e]
  · exact h.rotReg op (regsOfR8_subset_prefixCb r) (List.Subset.refl _)
  · exact h.bitReg b r (by decide)
  · exact h.resReg b (regsOfR8_subset_prefixCb r)
  · exact h.setReg b (regsOfR8_subset_prefixCb r)

/-- Every instruction keeps to the registers and flags its form lists (R33, R38). -/
theorem execForm_frame (f : Form) (s : State) : Frame (writtenRegs f) (writtenFlags f) s (execForm f s) := by
  have h : Frame (writtenRegs f) (writtenFlags f) s s := .refl s
  cases f with
  | ld dst src => exact (h.afterReadR8 src).writeR8 (List.Subset.refl _) _
  | ldImm dst v => exact h.writeR8 (List.Subset.refl _) v
  | ldPairImm p v => exact h.setRp (List.Subset.refl _) v
  | storeInd m => exact (h.memWrite _ _).indUpdate (List.Subset.refl _)
  | loadInd m => exact (h.loadA (.head _) _).indUpdate (List.subset_cons_self _ _)
  | pop p =>
    have hf : p = .af → [.z, .n, .h, .c] ⊆ writtenFlags (.pop p) := by rintro rfl; exact List.Subset.refl _
    exact (h.pop16 (.head _)).setRp2 (List.subset_cons_self _ _) hf _
  | push p => exact h.push16 (.head _) _
  | storeAbs | storeHigh | storeHighC => exact h.memWrite _ _
  | loadAbs | loadHigh | loadHighC => exact h.loadA (.head _) _
  | storeSp a => exact (h.memWrite _ _).memWrite _ _
  | ldSpHl => exact h.setSp (.head _) _
  | aluReg op r => exact (h.afterReadR8 r).aluOp op (fun hcp => by simp [writtenRegs, hcp]) (List.Subset.refl _) _
  | aluImm op v => exact h.aluOp op (fun hcp => by simp [writtenRegs, hcp]) (List.Subset.refl _) v
  | incReg r | decReg r => exact ((h.afterReadR8 r).writeR8 (List.Subset.refl _) _).setFlags
  | daa | cpl => exact (h.setA (.head _) _).setFlags
  | scf | ccf => exact h.setFlags
  | rlca | rrca | rla | rra => exact h.rotA _ (.head _) (List.Subset.refl _)
  | incPair p | decPair p => exact h.setRp (List.Subset.refl _) _
  | addHl p => exact (h.setRp (p := .hl) (List.Subset.refl _) _).setFlags
  | addSp e => exact h.setFlags.setSp (.head _) _
  | ldHlSp e => exact h.setFlags.setRp (p := .hl) (List.Subset.refl _) _
  | jp | jpHl | jr | stop => exact h.setPc _
  | jpCond | jrCond => exact .ite (fun _ => h.setPc _) h
  | call | rst => exact h.callTo (.head _) _
  | callCond => exact .ite (fun _ => h.callTo (.head _) _) h
  | ret => exact h.returnPop (.head _)
  | retCond => exact .ite (fun _ => h.returnPop (.head _)) h
  | reti =>
    have hpop := h.returnPop (.head _)
    exact .ite (fun hfull => hpop.interruptState (hpop.config ▸ hfull) _ _ _) hpop
  | nop => exact h
  | halt | di | ei => exact .ite (fun hfull => h.interruptState hfull _ _ _) h
  | illegal op => exact h.emit _
  | prefixCb => exact prefixCb_frame s
  | rot op r => exact h.cbGate (h.rotReg op (List.Subset.refl _) (List.Subset.refl _)) _
  | bit b r => exact h.cbGate (h.bitReg b r (List.Subset.refl _)) _
  | res b r => exact h.cbGate (h.resReg b (List.Subset.refl _)) _
  | set b r => exact h.cbGate (h.setReg b (List.Subset.refl _)) _

end Sys2Proof.Machine
end

section
/-! PROOFS. The invariant component by component: what each component of the state must satisfy, and that each operation of the
machine keeps it. -/

namespace Sys2Proof.Machine

/-! ### The parts of the invariant -/

/-- The part of `Inv` that is about the CPU (R31, R39). -/
structure CpuInv (config : Config) (r : Cpu) : Prop where
  flagsLow : r.f &&& 0x0F = 0
  noInterrupts : config.irqImpl = .none → r.ime = false ∧ r.imeScheduled = false ∧ r.halted = false

/-- The part of `Inv` that is about the cartridge (R40, R43). -/
structure CartInv (stage : BootStage) (cart : Cart) : Prop where
  romBanks : 1 ≤ cart.numRomBanks
  image : stage ≠ .noCartridge → 1 ≤ cart.romSize
  romWf : cart.rom.wf cart.romSize

/-- The line counter and the VBlank latch, which the loop of R462 keeps in step. -/
structure LineInv (p : Ppu) : Prop where
  ly : p.ly < linesPerFrame
  latch : p.vblankLatched = decide (vblankLine ≤ p.ly)

/-- The part of `Inv` that is about the PPU (R44, R462, R463). -/
structure PpuInv (p : Ppu) : Prop extends LineInv p where
  dot : p.dot < dotsPerLine
  mode : p.mode = modeAt p.ly p.dot ∨ (p.mode = .hblank ∧ p.ly = 0 ∧ p.dot = 0)

/-- The part of `Inv` that is about the timer (R45). -/
structure TimerInv (t : Timer) : Prop where
  divAcc : t.divAcc < divPeriod
  timaAcc : t.timaAcc < 1024

/-- The invariant is the invariants of the components. -/
theorem inv_iff (s : State) :
    Inv s ↔ CpuInv s.config s.cpu ∧ CartInv s.stage s.cart ∧ MmuInv s.cart s.mmu ∧ PpuInv s.ppu ∧ TimerInv s.timer := by
  constructor
  · intro h
    exact ⟨⟨h.flagsLow, h.noInterrupts⟩, ⟨h.romBanks, h.image, h.romWf⟩, h.mmuInv, ⟨⟨h.ly, h.latch⟩, h.dot, h.mode⟩,
      ⟨h.divAcc, h.timaAcc⟩⟩
  · rintro ⟨hcpu, hcart, hmmu, hppu, htimer⟩
    exact { hcpu, hcart, hmmu, hppu, htimer with selectors := hmmu.selectors }

/-! ### The reset values (R521 to R524) -/

theorem cpuInv_reset (config : Config) : CpuInv config Cpu.reset := ⟨by decide, fun _ => ⟨rfl, rfl, rfl⟩⟩

/-- The MMU's own reset state meets the invariant, whatever the cartridge. -/
theorem mmuInv_reset (cart : Cart) : MmuInv cart Mmu.reset :=
  ⟨by decide, by decide, fun _ => ⟨rfl, rfl, rfl, rfl⟩, Memory.wf_nil _, Memory.wf_nil _, Memory.wf_nil _, Memory.wf_nil _,
    Memory.wf_nil _, Memory.wf_nil _⟩

/-- The origin, where a reset and a disabled LCD leave the PPU (R461, R523). -/
theorem ppuInv_reset : PpuInv Ppu.reset :=
  ⟨⟨by decide, by decide⟩, by decide, .inr ⟨rfl, rfl, rfl⟩⟩

theorem timerInv_reset : TimerInv Timer.reset := ⟨by decide, by decide⟩

/-! ### The CPU and the memory unit -/

/-- An execution within a frame keeps the invariant. -/
theorem Frame.inv {rs : List RegName} {fs : List FlagName} {s t : State} (f : Frame rs fs s t) (h : Inv s) : Inv t := by
  obtain ⟨hcpu, hcart, hmmu, hppu, htimer⟩ := (inv_iff s).1 h
  refine (inv_iff t).2 ⟨⟨?_, fun hn => ?_⟩, ?_, f.mmuInv hmmu, f.ppu ▸ hppu, f.timer ▸ htimer⟩
  · exact f.flagsLow.elim id fun e => e ▸ hcpu.flagsLow
  · rw [f.config] at hn
    obtain ⟨hime, hsched, hhalt⟩ := f.interrupts hn
    rw [hime, hsched, hhalt]
    exact hcpu.noInterrupts hn
  · rw [f.stage, f.cart]; exact hcart

theorem Inv.memWrite {s : State} (h : Inv s) (a : Word) (v : Byte) : Inv (memWrite a v s) :=
  ((Frame.refl (rs := []) (fs := []) s).memWrite a v).inv h

theorem Inv.afterRead {s : State} (h : Inv s) (a : Word) : Inv (afterRead s a) :=
  ((Frame.refl (rs := []) (fs := []) s).emit _).inv h

theorem Inv.updateRegister {s : State} (h : Inv s) : Inv (updateRegister s) :=
  ((Frame.refl (rs := []) (fs := []) s).setSlot (by decide) _).inv h

/-! ### The PPU -/

/-- A device step keeps the invariant if it keeps that of the PPU and of the timer. -/
theorem OnlyDevices.inv {s t : State} (d : OnlyDevices s t) (h : Inv s) (hp : PpuInv t.ppu) (ht : TimerInv t.timer) : Inv t := by
  obtain ⟨hcpu, hcart, hmmu, -, -⟩ := (inv_iff s).1 h
  refine (inv_iff t).2 ⟨?_, ?_, ?_, hp, ht⟩
  · rw [d.config, d.cpu]; exact hcpu
  · rw [d.stage, d.cart]; exact hcart
  · rw [d.cart, congrArg State.mmu d.eq]
    exact { hmmu with ioWf := d.ioWf hmmu.ioWf }

theorem enterVblank_ppu (s : State) : (enterVblank s).ppu = { s.ppu with vblankLatched := true } := by
  simp only [enterVblank, postInterrupt_ppu]

theorem enterVblank_timer (s : State) : (enterVblank s).timer = s.timer := by
  simp only [enterVblank, postInterrupt_timer]

/-- One pass of the loop of R462: the line's dots are taken off; line 153 wraps to 0 and clears the latch, entry of line 144 sets
it. -/
theorem nextLine_ppu (s : State) :
    (nextLine s).ppu =
      if s.ppu.ly + 1 = linesPerFrame then { s.ppu with dot := s.ppu.dot - dotsPerLine, ly := 0, vblankLatched := false }
      else { s.ppu with
        dot := s.ppu.dot - dotsPerLine, ly := s.ppu.ly + 1
        vblankLatched := s.ppu.vblankLatched || decide (s.ppu.ly + 1 = vblankLine) } := by
  have h0 : ¬ 0 = vblankLine := by decide
  simp only [nextLine, setSlot_ppu, apply_ite State.ppu, enterVblank_ppu]
  by_cases hw : s.ppu.ly + 1 = linesPerFrame
  · simp only [hw, if_true, h0, false_and, if_false]
  · simp only [hw, if_false]
    cases s.ppu.vblankLatched <;> by_cases hv : s.ppu.ly + 1 = vblankLine <;> simp [hv]

theorem nextLine_timer (s : State) : (nextLine s).timer = s.timer := by
  simp only [nextLine, setSlot_timer, apply_ite State.timer, enterVblank_timer, ite_self]

theorem slot_enterVblank (s : State) {k : Nat} (hk : slotIf ≠ k) : slot (enterVblank s) k = slot s k :=
  slot_setSlot_other _ _ hk

theorem slot_ite {p : Prop} [Decidable p] (a b : State) (k : Nat) :
    slot (if p then a else b) k = if p then slot a k else slot b k :=
  apply_ite (slot · k) p a b

theorem slot_nextLine (s : State) {k : Nat} (hly : slotLy ≠ k) (hif : slotIf ≠ k) : slot (nextLine s) k = slot s k := by
  simp only [nextLine, slot_setSlot_other _ _ hly, slot_ite, slot_enterVblank _ hif, ite_self]
  simp only [slot]

theorem LineInv.nextLine {s : State} (h : LineInv s.ppu) : LineInv (nextLine s).ppu := by
  have hlast : linesPerFrame = 154 := rfl
  have hvblank : vblankLine = 144 := rfl
  obtain ⟨hly, hlatch⟩ := h
  rw [nextLine_ppu]
  split
  · exact ⟨show 0 < linesPerFrame by decide, show false = decide (vblankLine ≤ 0) by decide⟩
  · refine ⟨show s.ppu.ly + 1 < linesPerFrame by omega, ?_⟩
    rw [hlatch, ← Bool.decide_or]
    exact decide_eq_decide.2 (show vblankLine ≤ s.ppu.ly ∨ s.ppu.ly + 1 = vblankLine ↔ vblankLine ≤ s.ppu.ly + 1 by omega)

/-- What the loop of R462 does in `n` passes, as far as the invariant goes. -/
theorem advanceLines_spec {n : Nat} {s : State} (h : LineInv s.ppu) :
    LineInv (advanceLines n s).ppu ∧ (advanceLines n s).ppu.dot = s.ppu.dot - n * dotsPerLine := by
  induction n generalizing s with
  | zero => exact ⟨h, by simp [advanceLines]⟩
  | succ n ih =>
    obtain ⟨hline, hdot⟩ := ih h.nextLine
    have hpass : (Machine.nextLine s).ppu.dot = s.ppu.dot - dotsPerLine := by rw [nextLine_ppu]; split <;> rfl
    exact ⟨hline, by rw [advanceLines, hdot, hpass, Nat.sub_sub, Nat.succ_mul, Nat.add_comm]⟩

theorem advanceLines_timer (n : Nat) (s : State) : (advanceLines n s).timer = s.timer := by
  induction n generalizing s with
  | zero => rfl
  | succ n ih => rw [advanceLines, ih, nextLine_timer]

theorem lcdOn_advanceLines (n : Nat) (s : State) : lcdOn (advanceLines n s) = lcdOn s := by
  induction n generalizing s with
  | zero => rfl
  | succ n ih => rw [advanceLines, ih, lcdOn, lcdOn, slot_nextLine s (by decide) (by decide)]

theorem synthStat_ppu (s : State) :
    (synthStat s).ppu = { s.ppu with mode := if lcdOn s then modeAt s.ppu.ly s.ppu.dot else s.ppu.mode } := rfl

theorem ppuStep_timer (c : Nat) (s : State) : (ppuStep c s).timer = s.timer := by
  unfold ppuStep
  split
  · exact advanceLines_timer _ _
  · rfl

/-- A PPU step keeps the ranges of R44, whatever the cycles. -/
theorem PpuInv.ppuStep {s : State} (h : PpuInv s.ppu) (c : Nat) : PpuInv (ppuStep c s).ppu := by
  have hline : dotsPerLine = 456 := rfl
  unfold Machine.ppuStep
  split
  · rename_i hon
    let dots := s.ppu.dot + dotsPerCycle * c
    obtain ⟨hlines, hdot⟩ := advanceLines_spec (n := dots / dotsPerLine) (s := { s with ppu := { s.ppu with dot := dots } })
      ⟨h.ly, h.latch⟩
    have honAfter : lcdOn (ppuAdvance c s) = true := (lcdOn_advanceLines _ _).trans hon
    rw [synthStat_ppu, if_pos honAfter]
    refine ⟨⟨hlines.ly, hlines.latch⟩, ?_, .inl rfl⟩
    show (ppuAdvance c s).ppu.dot < dotsPerLine
    rw [ppuAdvance, hdot]
    dsimp only
    rw [hline]
    omega
  · refine ⟨⟨ppuInv_reset.ly, ppuInv_reset.latch⟩, ppuInv_reset.dot, ?_⟩
    rw [lcdOff, synthStat_ppu]
    split
    · exact .inl rfl
    · exact ppuInv_reset.mode

theorem Inv.ppuStep {s : State} (h : Inv s) (c : Nat) : Inv (ppuStep c s) := by
  obtain ⟨-, -, -, hppu, htimer⟩ := (inv_iff s).1 h
  exact (ppuStep_only c s).inv h (hppu.ppuStep c) (ppuStep_timer c s ▸ htimer)

/-! ### The timer -/

theorem incrementDiv_timer (s : State) :
    (incrementDiv s).timer = { s.timer with divAcc := s.timer.divAcc - divPeriod } := rfl

theorem incrementDiv_ppu (s : State) : (incrementDiv s).ppu = s.ppu := rfl

theorem advanceDiv_timer (n : Nat) (s : State) :
    (advanceDiv n s).timer = { s.timer with divAcc := s.timer.divAcc - n * divPeriod } := by
  induction n generalizing s with
  | zero => simp [advanceDiv]
  | succ n ih => rw [advanceDiv, ih, incrementDiv_timer, Nat.sub_sub, Nat.succ_mul, Nat.add_comm]

theorem advanceDiv_ppu (n : Nat) (s : State) : (advanceDiv n s).ppu = s.ppu := by
  induction n generalizing s with
  | zero => rfl
  | succ n ih => rw [advanceDiv, ih, incrementDiv_ppu]

theorem incrementTima_timer (period : Nat) (s : State) :
    (incrementTima period s).timer = { s.timer with timaAcc := s.timer.timaAcc - period } := by
  simp only [incrementTima, apply_ite State.timer, postInterrupt_timer, setSlot_timer, ite_self]

theorem incrementTima_ppu (period : Nat) (s : State) : (incrementTima period s).ppu = s.ppu := by
  simp only [incrementTima, apply_ite State.ppu, postInterrupt_ppu, setSlot_ppu, ite_self]

theorem advanceTima_timer (period n : Nat) (s : State) :
    (advanceTima period n s).timer = { s.timer with timaAcc := s.timer.timaAcc - n * period } := by
  induction n generalizing s with
  | zero => simp [advanceTima]
  | succ n ih => rw [advanceTima, ih, incrementTima_timer, Nat.sub_sub, Nat.succ_mul, Nat.add_comm]

theorem advanceTima_ppu (period n : Nat) (s : State) : (advanceTima period n s).ppu = s.ppu := by
  induction n generalizing s with
  | zero => rfl
  | succ n ih => rw [advanceTima, ih, incrementTima_ppu]

/-- TIMA is frozen or its period is one of R54's four, of which 1024 is the longest. -/
theorem timaPeriod_le (tac : Byte) : timaPeriod tac ≤ 1024 := by
  unfold timaPeriod
  split
  · split <;> decide
  · decide

/-- What is left of an accumulator after the loop of R471 or R472 is below the period. -/
theorem sub_div_mul_lt (acc : Nat) {period : Nat} (hp : 0 < period) : acc - acc / period * period < period := by
  rw [← Nat.mod_eq_sub_div_mul]
  exact Nat.mod_lt acc hp

theorem TimerInv.divStep {s : State} (h : TimerInv s.timer) (c : Nat) : TimerInv (divStep c s).timer := by
  rw [Machine.divStep, advanceDiv_timer]
  exact ⟨sub_div_mul_lt _ (by decide), h.timaAcc⟩

theorem TimerInv.timaStep {s : State} (h : TimerInv s.timer) (c : Nat) : TimerInv (timaStep c s).timer := by
  unfold Machine.timaStep
  dsimp only
  split
  · exact h
  · rename_i hon
    rw [advanceTima_timer]
    exact ⟨h.divAcc, Nat.lt_of_lt_of_le (sub_div_mul_lt _ (Nat.pos_of_ne_zero hon)) (timaPeriod_le _)⟩

theorem timerStep_ppu (c : Nat) (s : State) : (timerStep c s).ppu = s.ppu := by
  have hdiv : (divStep c s).ppu = s.ppu := advanceDiv_ppu _ _
  unfold timerStep timaStep
  dsimp only
  split
  · exact hdiv
  · exact (advanceTima_ppu _ _ _).trans hdiv

theorem Inv.timerStep {s : State} (h : Inv s) (c : Nat) : Inv (timerStep c s) := by
  obtain ⟨-, -, -, hppu, htimer⟩ := (inv_iff s).1 h
  exact (timerStep_only c s).inv h (timerStep_ppu c s ▸ hppu) ((htimer.divStep c).timaStep c)

/-! ### The step -/

theorem Inv.afterCpuStep {s : State} (h : Inv s) (c : Nat) : Inv (afterCpuStep c s) := by
  unfold Machine.afterCpuStep
  split
  · exact ((h.ppuStep c).timerStep c).updateRegister
  · exact h

theorem Inv.beforeFetch {s : State} (h : Inv s) : Inv (beforeFetch s) :=
  (Frame.ite (rs := []) (fs := []) (fun hfull => (Frame.refl s).interruptState hfull _ _ _) (.refl s)).inv h

/-- Taking an interrupt, after the wake, keeps the invariant: the step does so under `IRQ_IMPL = FULL` only. -/
theorem Inv.service {s : State} (h : Inv s) (hfull : s.config.irqImpl = .full) (p : Byte) : Inv (service p (wake s)) := by
  have hwake : Frame [.sp] [] s (wake s) := (Frame.refl s).interruptState hfull _ _ _
  exact (((hwake.callTo (.head _) _).setSlot (by decide) _).interruptState hfull _ _ _).inv h

/-- A fetch leaves PC past the bytes it read, their records emitted. -/
theorem fetchInstr_spec {s u : State} {i : Instr} (h : fetchInstr s = some (i, u)) :
    ∃ n, u = afterFetch n (afterFetch 1 s) := by
  simp only [fetchInstr, fetch8_eq, fetchBytes_eq] at h
  split at h
  · cases h; exact ⟨_, rfl⟩
  · cases h

/-- Running an instruction is a fetch and the meaning of a form. -/
theorem runInstr_spec {s t : State} {c : Nat} (h : runInstr s = .next (t, c)) :
    ∃ n f, t = execForm f (afterFetch n (afterFetch 1 s)) := by
  unfold runInstr at h
  split at h
  · cases h
  · rename_i i u hfetch
    obtain ⟨n, rfl⟩ := fetchInstr_spec hfetch
    simp only [exec_eq_execForm] at h
    cases h
    exact ⟨n, i.form, rfl⟩

theorem Inv.runInstr {s t : State} {c : Nat} (h : Inv s) (hrun : runInstr s = .next (t, c)) : Inv t := by
  obtain ⟨n, f, rfl⟩ := runInstr_spec hrun
  have hfetch : Frame [] [] s (afterFetch n (afterFetch 1 s)) := ((Frame.refl s).afterFetch 1).afterFetch n
  exact (execForm_frame f _).inv (hfetch.inv h)

/-- A CPU step keeps the invariant. -/
theorem Inv.cpuStep {s t : State} {c : Nat} (h : Inv s) (hstep : cpuStep s = .next (t, c)) : Inv t := by
  obtain ⟨-, -, hcpu⟩ | ⟨⟨hfull, -, -⟩, -, hcpu⟩ | ⟨-, -, hcpu⟩ := cpuStep_cases s <;> rw [hcpu] at hstep
  · cases hstep; exact h
  · cases hstep; exact h.service hfull _
  · exact h.beforeFetch.runInstr hstep

theorem Inv.consoleStep {s t : State} (h : Inv s) (hstep : consoleStep s = .next t) : Inv t := by
  unfold Machine.consoleStep at hstep
  split at hstep
  · split at hstep
    · rename_i u c hcpu
      cases hstep
      exact (h.cpuStep hcpu).afterCpuStep c
    · cases hstep
    · cases hstep
  · cases hstep

/-- Settles O59: the CPU step stays within a frame, the peripherals within their ranges. -/
theorem stepKeepsInv : Obligations.StepKeepsInv :=
  fun _ _ h hstep => h.consoleStep hstep

/-! ### The host -/

theorem Inv.run {n : Nat} {s t : State} (h : Inv s) (hrun : run n s = .next t) : Inv t := by
  induction n generalizing s with
  | zero => cases hrun; exact h
  | succ n ih =>
    unfold Machine.run at hrun
    split at hrun
    · rename_i u hstep
      exact ih (h.consoleStep hstep) hrun
    · cases hrun
    · cases hrun

theorem Inv.setButton {s : State} (h : Inv s) (button : Fin 8) (pressed : Bool) : Inv (setButton button pressed s) :=
  Inv.updateRegister (s := { s with pressedMask := putBit s.pressedMask button.val pressed }) ((inv_iff _).2 ((inv_iff s).1 h))

/-- The ROM size table of the header has no zero (R120). -/
theorem romSizeTable_pos {code : Byte} {n : Nat} (h : romSizeTable code = some n) : 1 ≤ n := by
  unfold romSizeTable at h
  split at h <;> cases h <;> decide

theorem banksOfSize_pos (size : Nat) : 1 ≤ banksOfSize size := Nat.le_max_left _ _

/-- A cartridge that an image makes meets the invariant (R120). -/
theorem cartInv_cartOf {image : List Byte} (h : image ≠ []) (stage : BootStage) : CartInv stage (cartOf image) := by
  have hsize : 1 ≤ image.length := List.length_pos_iff.2 h
  have hwf : (Memory.ofBytesAt 0 image).wf image.length := Nat.zero_add image.length ▸ Memory.wf_ofBytesAt 0 image
  unfold cartOf
  dsimp only
  split
  · refine ⟨?_, fun _ => hsize, hwf⟩
    dsimp only
    cases hcode : romSizeTable ((Memory.ofBytesAt 0 image).byteAt 0x148) with
    | none => exact banksOfSize_pos _
    | some n => exact romSizeTable_pos hcode
  · exact ⟨banksOfSize_pos _, fun _ => hsize, hwf⟩

theorem Inv.loadRom {s : State} (h : Inv s) (image : Option (List Byte)) : Inv (loadRom image s).1 := by
  obtain ⟨hcpu, hcart, hmmu, hppu, htimer⟩ := (inv_iff s).1 h
  match image with
  | none | some [] => exact (inv_iff _).2 ⟨hcpu, ⟨hcart.romBanks, (absurd rfl ·), hcart.romWf⟩, hmmu, hppu, htimer⟩
  | some (v :: rest) =>
    exact (inv_iff _).2 ⟨hcpu, cartInv_cartOf (List.cons_ne_nil v rest) _, mmuInv_reset _, hppu, htimer⟩

theorem clearSlots_same (n k : Nat) (s : State) : SameOutsideMmu s (clearSlots n k s) := by
  induction n generalizing k s with
  | zero => exact .refl s
  | succ n ih => exact (SameOutsideMmu.of_mmu s _).trans (ih (k + 1) (setSlot k 0x00 s))

theorem MmuInv.clearSlots {n k : Nat} {s : State} (h : MmuInv s.cart s.mmu) (hk : k + n ≤ ioSize) :
    MmuInv (clearSlots n k s).cart (clearSlots n k s).mmu := by
  induction n generalizing k s with
  | zero => exact h
  | succ n ih => exact ih (h.setSlot (by omega) 0x00) (by omega)

theorem afterReset_noCartridge {g : BootStage} (h : g = .noCartridge) : g.afterReset = .noCartridge := by
  rw [h]; rfl

/-- The console's reset leads to the invariant: every component but the cartridge is set (R520 to R526). -/
theorem Inv.consoleReset {s : State} (h : Inv s) : Inv (consoleReset s) := by
  obtain ⟨-, hcart, -, -, -⟩ := (inv_iff s).1 h
  let zeroed := timerReset (ppuReset (cpuReset (mmuReset s)))
  have hsame : SameOutsideMmu zeroed (apuReset zeroed) := clearSlots_same _ _ _
  have hmmu : MmuInv (apuReset zeroed).cart (apuReset zeroed).mmu := (mmuInv_reset s.cart).clearSlots (by decide)
  refine (inv_iff _).2 ⟨?_, ?_, hmmu.setSlot (by decide) 0xFF, ?_, ?_⟩
  · show CpuInv (apuReset zeroed).config (apuReset zeroed).cpu
    rw [hsame.cpu]
    exact cpuInv_reset _
  · show CartInv s.stage.afterReset (apuReset zeroed).cart
    rw [hsame.cart]
    exact ⟨hcart.romBanks, hcart.image ∘ mt afterReset_noCartridge, hcart.romWf⟩
  · show PpuInv (apuReset zeroed).ppu
    rw [hsame.ppu]
    exact ppuInv_reset
  · show TimerInv (apuReset zeroed).timer
    rw [hsame.timer]
    exact timerInv_reset

/-- Every action of the host keeps the invariant. -/
theorem Inv.hostAct {s t : State} {act : HostAction} {reply : HostReply} (h : Inv s)
    (hact : hostAct act s = .next (t, reply)) : Inv t := by
  have hrunnable {r : HostReply} {u : State} (hu : Inv u) (hwhen : whenRunnable s r u = .next (t, reply)) : Inv t := by
    unfold whenRunnable at hwhen
    split at hwhen
    · cases hwhen; exact hu
    · cases hwhen
  cases act with
  | loadRom image => cases hact; exact h.loadRom image
  | reset => cases hact; exact h.consoleReset
  | run n =>
    unfold Machine.hostAct at hact
    dsimp only at hact
    split at hact
    · rename_i u hrun
      exact hrunnable (h.run hrun) hact
    · cases hact
    · cases hact
  | ppuStep c => exact hrunnable (h.ppuStep c) hact
  | timerStep c => exact hrunnable (h.timerStep c) hact
  | apuStep c => exact hrunnable h hact
  | setButton b p => exact hrunnable (h.setButton b p) hact
  | updateRegister => exact hrunnable h.updateRegister hact
  | read addr => exact hrunnable (h.afterRead addr) hact
  | write addr v => exact hrunnable (h.memWrite addr v) hact

/-- Settles O60: a reset or a load sets the components to values within their ranges, every other action is made of the steps. -/
theorem hostKeepsInv : Obligations.HostKeepsInv :=
  fun _ _ _ _ h hact => h.hostAct hact

end Sys2Proof.Machine
end

section
/-! PROOFS. What no instruction changes: the registers and flags its form does not list, and the machine around the CPU. -/

namespace Sys2Proof.Machine

/-! ### The memory unit under an instruction that stores nothing -/

theorem afterReadR8_mmu (r : R8) (s : State) : (afterReadR8 r s).mmu = s.mmu := by
  cases r <;> rfl

theorem setRp_mmu (p : Rp) (v : Word) (s : State) : (setRp p v s).mmu = s.mmu := by
  cases p <;> rfl

theorem setRp2_mmu (p : Rp2) (v : Word) (s : State) : (setRp2 p v s).mmu = s.mmu := by
  cases p <;> rfl

theorem indUpdate_mmu (m : IndMode) (s : State) : (indUpdate m s).mmu = s.mmu := by
  cases m <;> rfl

theorem aluOp_mmu (op : AluOp) (v : Byte) (s : State) : (aluOp op v s).mmu = s.mmu := by
  cases op <;> rfl

/-- A write of a register operand changes the memory unit only through (HL). -/
theorem writeR8_mmu {r : R8} (h : r ≠ .hlm) (v : Byte) (s : State) : (writeR8 r v s).mmu = s.mmu := by
  cases r with
  | hlm => exact absurd rfl h
  | _ => rfl

theorem ite_mmu {p : Prop} [Decidable p] {s a b : State} (ha : p → a.mmu = s.mmu) (hb : b.mmu = s.mmu) :
    (if p then a else b).mmu = s.mmu := by
  by_cases hp : p
  · rw [if_pos hp]; exact ha hp
  · rwa [if_neg hp]

/-- A CB operation that is implemented and changes nothing of the memory unit, or one that is not. -/
theorem cbGate_mmu {op : State → State} {s : State} (h : s.config.cbImpl = .full → (op s).mmu = s.mmu) (cbop : Byte) :
    (cbGate cbop op s).mmu = s.mmu :=
  ite_mmu h rfl

/-- What a CB form writes back, under `CB_IMPL = FULL` and storing no byte, is a register. -/
theorem cbWrite_mmu {f : R8 → Form} {r : R8} {s : State}
    (hf : ∀ s : State, storedByte (f .hlm) s = if s.config.cbImpl = .full then some s.cpu.hl else none)
    (hfull : s.config.cbImpl = .full) (hbyte : storedByte (f r) s = none) (v : Byte) :
    (writeR8 r v (afterReadR8 r s)).mmu = s.mmu := by
  have hr : r ≠ .hlm := by
    rintro rfl
    rw [hf, if_pos hfull] at hbyte
    cases hbyte
  exact (writeR8_mmu hr _ _).trans (afterReadR8_mmu r s)

/-- A whole instruction whose form stores no byte and no pair of bytes leaves the memory unit alone. -/
theorem execForm_mmu {f : Form} {s : State} (hf : f ≠ .prefixCb) (hbyte : storedByte f s = none)
    (hword : storedWord f s = none) : (execForm f s).mmu = s.mmu := by
  cases f with
  | storeInd | storeAbs | storeHigh | storeHighC => cases hbyte
  | storeSp | push | call | rst => cases hword
  | prefixCb => exact absurd rfl hf
  | ld dst src => exact (writeR8_mmu (by rintro rfl; cases hbyte) _ _).trans (afterReadR8_mmu src s)
  | ldImm dst v => exact writeR8_mmu (by rintro rfl; cases hbyte) v s
  | incReg r | decReg r => exact (writeR8_mmu (by rintro rfl; cases hbyte) _ _).trans (afterReadR8_mmu r s)
  | ldPairImm p | incPair p | decPair p => exact setRp_mmu p _ s
  | loadInd m => exact indUpdate_mmu m _
  | pop p => exact setRp2_mmu p _ _
  | aluReg op r => exact (aluOp_mmu op _ _).trans (afterReadR8_mmu r s)
  | aluImm op v => exact aluOp_mmu op v s
  | callCond cc a => exact ite_mmu (fun hc => by simp [storedWord, hc] at hword) rfl
  | jpCond | jrCond | retCond | reti | halt | di | ei => exact ite_mmu (fun _ => rfl) rfl
  | bit b r => exact cbGate_mmu (op := bitReg b r) (fun _ => afterReadR8_mmu r s) _
  | rot op r =>
    exact cbGate_mmu (op := rotReg op r) (fun hfull => cbWrite_mmu (f := .rot op) (fun _ => rfl) hfull hbyte _) _
  | res b r =>
    exact cbGate_mmu (op := resReg b r) (fun hfull => cbWrite_mmu (f := .res b) (fun _ => rfl) hfull hbyte _) _
  | set b r =>
    exact cbGate_mmu (op := setReg b r) (fun hfull => cbWrite_mmu (f := .set b) (fun _ => rfl) hfull hbyte _) _
  | _ => rfl

/-! ### The obligations -/

/-- Settles O31: the frame of the instruction's form. -/
theorem registerFrame : Obligations.RegisterFrame := by
  intro i s t h
  obtain rfl := execForm_of_exec h
  exact (execForm_frame i.form s).regs

/-- Settles O32: the frame of the instruction's form. -/
theorem flagFrame : Obligations.FlagFrame := by
  intro i s t h
  obtain rfl := execForm_of_exec h
  exact ⟨(execForm_frame i.form s).flags, (execForm_frame i.form s).flagsLow⟩

theorem form_ne_prefixCb {i : Instr} (h : WellFormed i = true) : i.form ≠ .prefixCb := by
  intro e
  simp [WellFormed, e] at h

/-- Settles O34: the frame of the instruction's form, and what a form that stores nothing does to the memory unit. -/
theorem machineFrame : Obligations.MachineFrame := by
  intro i s t h
  obtain rfl := execForm_of_exec h
  obtain ⟨hconfig, hcart, hppu, htimer, hmask, hstage, hdiag, -⟩ := execForm_frame i.form s
  exact ⟨hconfig, hcart, hppu, htimer, hmask, hstage, hdiag, fun hwf => execForm_mmu (form_ne_prefixCb hwf)⟩

end Sys2Proof.Machine
end

section
/-! PROOFS. The operand tables and the pair views. -/

namespace Sys2Proof.Machine

/-! ### The pair views (R32) -/

/-- The word of a byte and one whose low nibble is masked. -/
theorem hiByte_append_masked (w : Word) : (hiByte w ++ (loByte w &&& 0xF0) : Word) = w &&& 0xFFF0 := by
  have hmask : (hiByte w ++ loByte w : Word) &&& ((0xFF : Byte) ++ (0xF0 : Byte)) = hiByte w ++ (loByte w &&& 0xF0) := by
    rw [BitVec.and_append, show hiByte w &&& 0xFF = hiByte w from BitVec.and_allOnes]
  rw [← hmask, show (hiByte w ++ loByte w : Word) = w from wordOfBytes_bytes w]
  rfl

/-- A pair reads back as it was written, but for F's low nibble. -/
theorem getRp2_setRp2 (p : Rp2) (w : Word) (s : State) :
    getRp2 p (setRp2 p w s) = if p = .af then w &&& 0xFFF0 else w := by
  cases p with
  | af => exact hiByte_append_masked w
  | _ => exact wordOfBytes_bytes w

/-- Settles O6: the views and their writes are the definitions'; the read-back is `getRp2_setRp2`. -/
theorem pairViews : Obligations.PairViews := by
  intro s w v
  exact ⟨rfl, rfl, rfl, rfl, rfl, rfl, rfl, rfl, rfl, fun p => getRp2_setRp2 p w s⟩

/-! ### The operand tables -/

/-- The eight bits of a flag byte, from bit 0 up (R31). -/
theorem flagByte_table (z n h c : Bool) :
    (List.range 8).map (flagByte z n h c).getLsbD = [false, false, false, false, c, h, n, z] := by
  cases z <;> cases n <;> cases h <;> cases c <;> decide

/-- Settles O5: each entry of each table is the definition's own case; only the bits of the flag byte are computed. -/
theorem operandTables : Obligations.OperandTables := by
  intro s v w
  refine ⟨?registers, ?pairs, ?conditions, ?flags, ?writes, fun r => ?reads, rfl, rfl, fun k => rfl⟩
  case registers => exact ⟨by decide, rfl, rfl, rfl, rfl, rfl, rfl, rfl, rfl, rfl, rfl⟩
  case pairs => exact ⟨by decide, by decide, rfl, rfl, rfl, rfl⟩
  case conditions => exact ⟨by decide, rfl⟩
  case flags => exact ⟨rfl, flagByte_table⟩
  case writes => exact ⟨rfl, rfl, rfl, rfl⟩
  case reads => rfl

end Sys2Proof.Machine
end

section
/-! PROOFS. PUSH then POP of one pair, through the two bytes of a stack slot in work RAM. -/

namespace Sys2Proof.Machine

/-! ### What the bytes of one instruction execute to -/

/-- Bytes that are an instruction of a form execute to what the form gives, and to nothing else. -/
theorem eq_execForm_of_executes {bytes : List Byte} {f : Form} {s t : State}
    (hf : ∃ i, decode bytes = .ok (i, []) ∧ i.form = f) (h : Executes bytes s t) : t = execForm f s := by
  obtain ⟨i, hi, rfl⟩ := hf
  obtain ⟨j, hj, hexec⟩ := h
  rw [hi] at hj
  cases hj
  exact execForm_of_exec hexec

theorem decode_push (p : Rp2) : ∃ i, decode [0xC5 + 16 * field p.index] = .ok (i, []) ∧ i.form = .push p := by
  cases p <;> exact ⟨_, rfl, rfl⟩

theorem decode_pop (p : Rp2) : ∃ i, decode [0xC1 + 16 * field p.index] = .ok (i, []) ∧ i.form = .pop p := by
  cases p <;> exact ⟨_, rfl, rfl⟩

/-! ### Work RAM -/

/-- Different addresses of work RAM lead to different bytes, the second bank never being bank 0 (R42, R88). -/
theorem locate_wram_inj {s : State} (hw : s.mmu.wramBank ≠ 0) {x y : Word} (hx : inRange 0xC000 0xDFFF x)
    (hy : inRange 0xC000 0xDFFF y) (h : locate s x = locate s y) : x = y := by
  have hbank : 1 ≤ s.mmu.wramBank.toNat := Nat.pos_of_ne_zero fun e => hw (BitVec.eq_of_toNat_eq e)
  have hsize : wramBankSize = 0x1000 := rfl
  have hmul : wramBankSize ≤ s.mmu.wramBank.toNat * wramBankSize := Nat.le_mul_of_pos_left _ hbank
  obtain ⟨hx1, hx2⟩ := hx
  obtain ⟨hy1, hy2⟩ := hy
  rw [locate_wram s hx1 (by omega), locate_wram s hy1 (by omega), wramPlace_eq, wramPlace_eq] at h
  have hindex := Place.wram.inj h
  apply BitVec.eq_of_toNat_eq
  split at hindex <;> split at hindex <;> omega

/-- A byte stored in work RAM reads back. -/
theorem readByte_memWrite_wram {s : State} (hs : Inv s) {x : Word} (hx : inRange 0xC000 0xDFFF x) (v : Byte) :
    readByte (memWrite x v s) x = v := by
  obtain ⟨hx1, hx2⟩ := hx
  have hloc := (locate_wram s hx1 (by omega)).trans (wramPlace_eq s _)
  have hwrite : memWrite x v s = writePlace x v s (locate s x) := rfl
  have hafter : locate (memWrite x v s) x = locate s x := by
    rw [hwrite, hloc]
    exact (locate_congr rfl rfl rfl rfl rfl rfl rfl x).trans hloc
  rw [readByte, hafter, hwrite, hloc]
  exact Memory.byteAt_store_same hs.wramWf.1 _ v

/-- A store in work RAM is not seen at another address of it. -/
theorem readByte_memWrite_wram_other {s : State} (hs : Inv s) {x y : Word} (hx : inRange 0xC000 0xDFFF x)
    (hy : inRange 0xC000 0xDFFF y) (hne : x ≠ y) (v : Byte) : readByte (memWrite x v s) y = readByte s y := by
  apply readByte_memWrite_other
  have hloc := (locate_wram s hx.1 (Nat.lt_succ_of_le hx.2)).trans (wramPlace_eq s _)
  unfold storeReaches
  rw [hloc]
  dsimp only
  rw [← hloc]
  exact fun h => hne (locate_wram_inj hs.wramBank hy hx h).symm

/-! ### The slot -/

/-- A pop after a push of any word gives it back, from a stack slot in work RAM. -/
theorem pop16_push16_word {s : State} (hs : Inv s) (hhi : inRange 0xC000 0xDFFF (s.cpu.sp - 1))
    (hlo : inRange 0xC000 0xDFFF (s.cpu.sp - 2)) (v : Word) : (pop16 (push16 v s)).1 = v := by
  have hne : s.cpu.sp - 2 ≠ s.cpu.sp - 1 := by bv_omega
  have hnext : s.cpu.sp - 2 + 1 = s.cpu.sp - 1 := by bv_omega
  have hs1 := hs.memWrite (s.cpu.sp - 1) (hiByte v)
  rw [pop16_eq, push16_eq]
  dsimp only
  rw [setSp_cpu_sp, readByte_setSp, readByte_setSp, hnext, readByte_memWrite_wram hs1 hlo,
    readByte_memWrite_wram_other hs1 hlo hhi hne, readByte_memWrite_wram hs hhi, wordOfBytes_bytes]

/-- A push and a pop move SP down and up again, and touch no other register. -/
theorem pop16_push16_cpu (v : Word) (s : State) : (pop16 (push16 v s)).2.cpu = s.cpu := by
  rw [pop16_eq, push16_eq]
  show { (memWrite _ _ (memWrite _ _ s)).cpu with sp := s.cpu.sp - 2 + 2 } = s.cpu
  rw [memWrite_cpu, memWrite_cpu, BitVec.sub_add_cancel]

theorem and_F0_of_and_0F {f : Byte} (h : f &&& 0x0F = 0) : f &&& 0xF0 = f := by
  calc f &&& 0xF0 = (f &&& 0xF0) ||| (f &&& 0x0F) := by rw [h]; exact BitVec.or_zero.symm
    _ = f &&& (0xF0 ||| 0x0F) := BitVec.and_or_distrib_left.symm
    _ = f := BitVec.and_allOnes

/-- Writing a pair's own value to it changes no register; for AF because F's low nibble is zero (R31). -/
theorem setRp2_getRp2_cpu {s t : State} (hlow : s.cpu.f &&& 0x0F = 0) (ht : t.cpu = s.cpu) (p : Rp2) :
    (setRp2 p (getRp2 p s) t).cpu = s.cpu := by
  have hhi (x y : Byte) : hiByte (x ++ y) = x := hiByte_wordOfBytes y x
  have hlo (x y : Byte) : loByte (x ++ y) = y := loByte_wordOfBytes y x
  cases p with
  | bc => simp only [setRp2, getRp2, setBc, Cpu.bc, ht, hhi, hlo]
  | de => simp only [setRp2, getRp2, setDe, Cpu.de, ht, hhi, hlo]
  | hl => simp only [setRp2, getRp2, setHl, Cpu.hl, ht, hhi, hlo]
  | af => simp only [setRp2, getRp2, setAf, Cpu.af, ht, hhi, hlo, and_F0_of_and_0F hlow]

/-- Settles O11: the pop gives the pushed word back, with the registers as they were, and the pair is written with its own value. -/
theorem pushThenPop : Obligations.PushThenPop := by
  intro s t u p hs hhi hlo hpush hpop
  obtain rfl := eq_execForm_of_executes (decode_push p) hpush
  obtain rfl := eq_execForm_of_executes (decode_pop p) hpop
  show (setRp2 p (pop16 (push16 (getRp2 p s) s)).1 (pop16 (push16 (getRp2 p s) s)).2).cpu = s.cpu
  rw [pop16_push16_word hs hhi hlo]
  exact setRp2_getRp2_cpu hs.flagsLow (pop16_push16_cpu _ s) p

end Sys2Proof.Machine
end

section
/-! PROOFS. The accesses of the memory unit range by range: what a read answers, what a write changes, and that a byte stored
whole reads back. -/

namespace Sys2Proof.Machine

/-! ### Where the ranges lead -/

theorem locate_wramFixed (s : State) {x : Word} (h : inRange 0xC000 0xCFFF x) : locate s x = .wram (x.toNat - 0xC000) := by
  obtain ⟨hlo, hhi⟩ := h
  have hsize : wramBankSize = 0x1000 := rfl
  rw [locate_wram s hlo (by omega), wramPlace, if_pos (by omega)]

theorem locate_wramBanked (s : State) {x : Word} (h : inRange 0xD000 0xDFFF x) :
    locate s x = .wram (s.mmu.wramBank.toNat * wramBankSize + (x.toNat - 0xD000)) := by
  obtain ⟨hlo, hhi⟩ := h
  have hsize : wramBankSize = 0x1000 := rfl
  rw [locate_wram s (by omega) (by omega), wramPlace, if_neg (by omega),
    show x.toNat - 0xC000 - wramBankSize = x.toNat - 0xD000 from Nat.sub_sub _ 0xC000 0x1000]

/-- The echo range leads where the address 0x2000 below leads (R89). -/
theorem locate_echo_eq (s : State) {x : Word} (h : inRange 0xE000 0xFDFF x) : locate s x = locate s (x - 0x2000) := by
  obtain ⟨hlo, hhi⟩ := h
  have hx : (x - 0x2000).toNat = x.toNat - 0x2000 := by bv_omega
  rw [locate_echo s hlo (by omega), locate_wram s (by omega) (by omega), hx, Nat.sub_sub]

/-- An MBC1 selector's range leads to the image (R81). -/
theorem locate_rom (s : State) {x : Word} (h : x.toNat < 0x8000) : ∃ i, locate s x = .rom i := by
  by_cases hx : x.toNat < 0x4000
  · exact ⟨_, locate_romFixed s hx⟩
  · exact ⟨_, locate_romBanked s (Nat.le_of_not_lt hx) h⟩

/-! ### The access at a place -/

/-- A read away from the image emits no diagnostic (R372). -/
theorem memRead_of_locate {s : State} {x : Word} {p : Place} (h : locate s x = p) (hp : ∀ i, p ≠ .rom i) :
    memRead s x = (readPlace s p, s) := by
  have hdiag : readDiag s x = [] := by
    unfold readDiag
    rw [h]
    cases p with
    | rom i => exact absurd rfl (hp i)
    | _ => rfl
  rw [memRead, readByte, afterRead, hdiag, emit_nil, h]

theorem memWrite_of_locate {s : State} {x : Word} {p : Place} (h : locate s x = p) (v : Byte) :
    memWrite x v s = writePlace x v s p := by
  rw [memWrite, h]

/-! ### Reads of external RAM -/

theorem eramAnswers_iff (s : State) :
    eramAnswers s = true ↔ ¬ (s.cart.numRamBanks = 0 ∨ s.mmu.ramEnabled = false) := by
  simp [eramAnswers, Nat.pos_iff_ne_zero]

/-- The effective RAM bank is one of the cartridge's (R87). -/
theorem effRamBank_lt_of_ne_zero {s : State} (h : s.cart.numRamBanks ≠ 0) : effRamBank s < s.cart.numRamBanks := by
  unfold effRamBank
  split
  · exact Nat.pos_of_ne_zero h
  · exact Nat.mod_lt _ (Nat.pos_of_ne_zero h)

theorem eramIndex_lt {s : State} {x : Word} (hx : inRange 0xA000 0xBFFF x) (h : s.cart.numRamBanks ≠ 0) :
    effRamBank s * ramBankSize + (x.toNat - 0xA000) < s.cart.numRamBanks * ramBankSize := by
  obtain ⟨hlo, hhi⟩ := hx
  have hsize : ramBankSize = 0x2000 := rfl
  have hbank := effRamBank_lt_of_ne_zero h
  rw [hsize]
  omega

theorem memRead_eram (s : State) {x : Word} (hx : inRange 0xA000 0xBFFF x) :
    memRead s x =
      if s.cart.numRamBanks = 0 ∨ s.mmu.ramEnabled = false then (openBus, s)
      else (s.mmu.eram.byteAt (effRamBank s * ramBankSize + (x.toNat - 0xA000)), s) := by
  have hloc := locate_eram s hx.1 (Nat.lt_succ_of_le hx.2)
  by_cases h : s.cart.numRamBanks = 0 ∨ s.mmu.ramEnabled = false
  · rw [if_neg fun g => (eramAnswers_iff s).1 g h] at hloc
    rw [if_pos h]
    exact memRead_of_locate hloc nofun
  · rw [if_pos ((eramAnswers_iff s).2 h)] at hloc
    rw [if_neg h]
    exact memRead_of_locate hloc nofun

/-- `wram_bank` holds 1 to 7 (R42). -/
theorem Inv.wramBank_range {s : State} (h : Inv s) : 1 ≤ s.mmu.wramBank.toNat ∧ s.mmu.wramBank.toNat ≤ 7 :=
  ⟨Nat.pos_of_ne_zero fun e => h.wramBank (BitVec.eq_of_toNat_eq e), Nat.le_of_lt_succ s.mmu.wramBank.isLt⟩

theorem memRead_echo (s : State) {x : Word} (h : inRange 0xE000 0xFDFF x) : memRead s x = memRead s (x - 0x2000) := by
  have hloc := (locate_echo s h.1 (Nat.lt_succ_of_le h.2)).trans (wramPlace_eq s _)
  rw [memRead_of_locate hloc nofun, memRead_of_locate ((locate_echo_eq s h).symm.trans hloc) nofun]

/-- Settles O37: each range leads to one place, away from the image. -/
theorem readRam : Obligations.ReadRam := by
  intro s x
  refine ⟨memRead_eram s, eramIndex_lt, fun h => ?wramFixed, fun h => ?wramBanked, Inv.wramBank_range, memRead_echo s,
    fun h => ?unusable, fun h => ?hram, fun h => ?ie⟩
  case wramFixed => exact memRead_of_locate (locate_wramFixed s h) nofun
  case wramBanked => exact memRead_of_locate (locate_wramBanked s h) nofun
  case unusable => exact memRead_of_locate (locate_unusable s h.1 (Nat.lt_succ_of_le h.2)) nofun
  case hram => exact memRead_of_locate (locate_hram s h.1 (Nat.lt_succ_of_le h.2)) nofun
  case ie => exact memRead_of_locate (locate_ie s (congrArg BitVec.toNat h)) nofun

/-! ### Selectors -/

/-- The low bits of a byte, as the spec writes them. -/
theorem ofNat_mod_eq_extractLsb' {w m : Nat} (hm : m = 2 ^ w) (v : Byte) :
    BitVec.ofNat w (v.toNat % m) = v.extractLsb' 0 w := by
  apply BitVec.eq_of_toNat_eq
  rw [BitVec.toNat_ofNat, BitVec.extractLsb'_toNat, Nat.shiftRight_zero, hm, Nat.mod_mod]

theorem memWrite_rom (s : State) {x : Word} (h : x.toNat < 0x8000) (v : Byte) : memWrite x v s = cartControl x v s := by
  obtain ⟨i, hi⟩ := locate_rom s h
  exact memWrite_of_locate hi v

theorem hasMbc1_eq_true_iff (s : State) :
    hasMbc1 s = true ↔ s.cart.cartType = 0x01 ∨ s.cart.cartType = 0x02 ∨ s.cart.cartType = 0x03 := by
  simp [hasMbc1, or_assoc]

/-- Settles O39: the four branches of `cartControl`. -/
theorem writeCartControl : Obligations.WriteCartControl := by
  intro s x v hmbc
  have hcart (h : x.toNat < 0x8000) : memWrite x v s = _ :=
    (memWrite_rom s h v).trans (if_pos ((hasMbc1_eq_true_iff s).2 hmbc))
  refine ⟨fun ⟨hlo, hhi⟩ => ?enable, fun ⟨hlo, hhi⟩ => ?low, fun ⟨hlo, hhi⟩ => ?high, fun ⟨hlo, hhi⟩ => ?mode⟩
  case enable =>
    exact (hcart (by omega)).trans (if_pos (by omega))
  case low =>
    rw [ofNat_mod_eq_extractLsb' (w := 5) (m := 32) rfl]
    exact (hcart (by omega)).trans ((if_neg (by omega)).trans (if_pos (by omega)))
  case high =>
    rw [ofNat_mod_eq_extractLsb' (w := 2) (m := 4) rfl]
    exact (hcart (by omega)).trans ((if_neg (by omega)).trans ((if_neg (by omega)).trans (if_pos (by omega))))
  case mode =>
    rw [ofNat_mod_eq_extractLsb' (w := 1) (m := 2) rfl]
    exact (hcart (by omega)).trans ((if_neg (by omega)).trans ((if_neg (by omega)).trans (if_neg (by omega))))

theorem ioWrite_vbk (v : Byte) (s : State) :
    ioWrite slotVbk v s = setSlot slotVbk v { s with mmu := { s.mmu with vramBank := BitVec.ofNat 1 (v.toNat % 2) } } := by
  rw [ofNat_mod_eq_extractLsb' (w := 1) (m := 2) rfl]
  exact (if_neg (by decide)).trans ((if_neg (by decide)).trans (if_pos rfl))

theorem ioWrite_svbk (v : Byte) (s : State) :
    ioWrite slotSvbk v s =
      setSlot slotSvbk v { s with mmu := { s.mmu with wramBank := nonzero (BitVec.ofNat 3 (v.toNat % 8)) } } := by
  rw [ofNat_mod_eq_extractLsb' (w := 3) (m := 8) rfl]
  exact (if_neg (by decide)).trans ((if_neg (by decide)).trans ((if_neg (by decide)).trans (if_pos rfl)))

/-- Settles O42: the slots of the two selectors are branches of `ioWrite`. -/
theorem writeBankSelectors : Obligations.WriteBankSelectors := by
  intro s v
  have hvbk : locate s 0xFF4F = .io slotVbk := locate_io s (by decide) (by decide)
  have hsvbk : locate s 0xFF70 = .io slotSvbk := locate_io s (by decide) (by decide)
  exact ⟨(memWrite_of_locate hvbk v).trans (ioWrite_vbk v s), (memWrite_of_locate hsvbk v).trans (ioWrite_svbk v s)⟩

/-! ### A stored byte reads back -/

/-- The DMA copy changes OAM only (R112). -/
theorem dmaCopy_mmu (v : Byte) (n i : Nat) (s : State) :
    (dmaCopy v n i s).mmu = { s.mmu with oam := (dmaCopy v n i s).mmu.oam } := by
  induction n generalizing i s with
  | zero => rfl
  | succ n ih => exact ih (i + 1) (dmaByte v i s)

theorem locate_setSlot (k : Nat) (v : Byte) (s : State) (y : Word) : locate (setSlot k v s) y = locate s y :=
  locate_congr rfl rfl rfl rfl rfl rfl rfl y

theorem locate_dmaCopy (v : Byte) (n i : Nat) (s : State) (y : Word) : locate (dmaCopy v n i s) y = locate s y := by
  apply locate_congr (dmaCopy_same v n i s).cart <;> rw [dmaCopy_mmu]

/-- Every slot but DIV holds the byte written to it (R103). -/
theorem slot_ioWrite_same {s : State} (hs : MmuInv s.cart s.mmu) {k : Nat} (hk : k ≠ slotDiv) (v : Byte) :
    slot (ioWrite k v s) k = v := by
  have hsame (m : Memory) (hm : m = s.mmu.io) (j : Nat) : (m.store j v).byteAt j = v :=
    hm ▸ Memory.byteAt_store_same hs.ioWf.1 j v
  unfold ioWrite
  rw [if_neg hk]
  split
  · next h => subst h; exact hsame _ (by rw [dmaCopy_mmu]) _
  split
  · next h => subst h; exact hsame _ rfl _
  split
  · next h => subst h; exact hsame _ rfl _
  · exact hsame _ rfl _

/-- The places where a store keeps the whole byte, to be read as it was written (R97 to R101, R103 to R105). -/
def Place.StoresWhole : Place → Prop
  | .rom _ | .noEram | .unusable => False
  | .io k => k ≠ slotP1 ∧ k ≠ slotDiv ∧ k ≠ slotVbk ∧ k ≠ slotSvbk
  | .vram _ | .eram _ | .wram _ | .oam _ | .hram _ | .ie => True

/-- A write to a slot that is no bank selector moves no address. -/
theorem locate_ioWrite {k : Nat} (hv : k ≠ slotVbk) (hw : k ≠ slotSvbk) (v : Byte) (s : State) (y : Word) :
    locate (ioWrite k v s) y = locate s y := by
  unfold ioWrite
  rw [if_neg hv, if_neg hw]
  split
  · exact locate_setSlot slotDiv 0x00 s y
  split
  · rw [locate_setSlot, locate_dmaCopy]
  · exact locate_setSlot k v s y

/-- A store at a place that keeps the whole byte moves no address. -/
theorem locate_memWrite {s : State} {x : Word} (h : (locate s x).StoresWhole) (v : Byte) (y : Word) :
    locate (memWrite x v s) y = locate s y := by
  unfold memWrite
  generalize locate s x = p at h
  cases p with
  | rom i | noEram | unusable => exact h.elim
  | io k =>
    obtain ⟨-, -, hv, hw⟩ := h
    exact locate_ioWrite hv hw v s y
  | _ => exact locate_congr rfl rfl rfl rfl rfl rfl rfl y

theorem ioRead_eq_slot {k : Nat} (hp : k ≠ slotP1) (hv : k ≠ slotVbk) (hw : k ≠ slotSvbk) (s : State) :
    ioRead s k = slot s k := by
  rw [ioRead, if_neg hp, if_neg hv, if_neg hw]

theorem readByte_memWrite_same {s : State} (hs : Inv s) {x : Word} (h : (locate s x).StoresWhole) (v : Byte) :
    readByte (memWrite x v s) x = v := by
  rw [readByte, locate_memWrite h]
  unfold memWrite
  generalize locate s x = p at h
  cases p with
  | rom i | noEram | unusable => exact h.elim
  | vram i => exact Memory.byteAt_store_same hs.vramWf.1 i v
  | eram i => exact Memory.byteAt_store_same hs.eramWf.1 i v
  | wram i => exact Memory.byteAt_store_same hs.wramWf.1 i v
  | oam i => exact Memory.byteAt_store_same hs.oamWf.1 i v
  | hram i => exact Memory.byteAt_store_same hs.hramWf.1 i v
  | ie => rfl
  | io k =>
    obtain ⟨hp, hd, hv, hw⟩ := h
    exact (ioRead_eq_slot hp hv hw _).trans (slot_ioWrite_same hs.mmuInv hd v)

theorem storesWhole_wram {s : State} {x : Word} (h : inRange 0xC000 0xFDFF x) : (locate s x).StoresWhole := by
  obtain ⟨hlo, hhi⟩ := h
  by_cases hx : x.toNat < 0xE000
  · rw [locate_wram s hlo hx, wramPlace_eq]; trivial
  · rw [locate_echo s (Nat.le_of_not_lt hx) (by omega), wramPlace_eq]; trivial

theorem storesWhole_high {s : State} {x : Word} (h : inRange 0xFF80 0xFFFF x) : (locate s x).StoresWhole := by
  obtain ⟨hlo, hhi⟩ := h
  by_cases hx : x.toNat < 0xFFFF
  · rw [locate_hram s hlo hx]; trivial
  · rw [locate_ie s (by omega)]; trivial

/-- Settles O45: each of the ranges leads to a place that keeps the whole byte. -/
theorem storedByteReadsBack : Obligations.StoredByteReadsBack := by
  intro s x v hs h
  apply readByte_memWrite_same hs
  obtain ⟨hlo, hhi⟩ | ⟨hlo, hhi⟩ | h | ⟨⟨hlo, hhi⟩, hbanks, henabled⟩ | ⟨⟨hlo, hhi⟩, hdiv, hvbk, hsvbk⟩ := h
  · rw [locate_vram s hlo (by omega)]; trivial
  · by_cases hx : x.toNat < 0xFE00
    · exact storesWhole_wram ⟨hlo, by omega⟩
    · rw [locate_oam s (Nat.le_of_not_lt hx) (by omega)]; trivial
  · exact storesWhole_high h
  · have hanswers := (eramAnswers_iff s).2 (by simp [hbanks, henabled])
    rw [locate_eram s hlo (by omega), if_pos hanswers]; trivial
  · rw [locate_io s (by omega) (by omega)]
    have hslot (k : Nat) (hk : k < 0x80) (hne : x ≠ BitVec.ofNat 16 (0xFF00 + k)) : x.toNat - 0xFF00 ≠ k := by bv_omega
    refine ⟨?_, hslot _ (by decide) hdiv, hslot _ (by decide) hvbk, hslot _ (by decide) hsvbk⟩
    show x.toNat - 0xFF00 ≠ 0
    omega

/-! ### Writes -/

theorem memWrite_echo (s : State) {x : Word} (h : inRange 0xE000 0xFDFF x) (v : Byte) :
    memWrite x v s = memWrite (x - 0x2000) v s := by
  have hloc := (locate_echo s h.1 (Nat.lt_succ_of_le h.2)).trans (wramPlace_eq s _)
  rw [memWrite_of_locate hloc, memWrite_of_locate ((locate_echo_eq s h).symm.trans hloc)]
  rfl

/-- A byte stored whole reads back with no diagnostic. -/
theorem memRead_memWrite_same {s : State} (hs : Inv s) {x : Word} (h : (locate s x).StoresWhole) (v : Byte) :
    memRead (memWrite x v s) x = (v, memWrite x v s) := by
  have hrom (i : Nat) : locate s x ≠ .rom i := fun e => by rw [e] at h; exact h
  rw [memRead_of_locate (locate_memWrite h v x) hrom, ← locate_memWrite h v x]
  exact congrArg (·, _) (readByte_memWrite_same hs h v)

/-- Settles O41: each range leads to one place, and the write is the store there. -/
theorem writeRam : Obligations.WriteRam := by
  intro s x v
  refine ⟨fun h => ?vram, fun h => ?wramFixed, fun h => ?wramBanked, fun h => memWrite_echo s h v, fun h => ?oam,
    fun h => ?hram, fun h => ?ie, fun hs h => memRead_memWrite_same hs ?stores v⟩
  case vram => exact memWrite_of_locate (locate_vram s h.1 (Nat.lt_succ_of_le h.2)) v
  case wramFixed => exact memWrite_of_locate (locate_wramFixed s h) v
  case wramBanked => exact memWrite_of_locate (locate_wramBanked s h) v
  case oam => exact memWrite_of_locate (locate_oam s h.1 (Nat.lt_succ_of_le h.2)) v
  case hram => exact memWrite_of_locate (locate_hram s h.1 (Nat.lt_succ_of_le h.2)) v
  case ie => exact memWrite_of_locate (locate_ie s (congrArg BitVec.toNat h)) v
  case stores =>
    obtain ⟨hlo, hhi⟩ | ⟨hlo, hhi⟩ := h
    · exact storesWhole_wram ⟨hlo, by omega⟩
    · exact storesWhole_high ⟨hlo, by omega⟩

end Sys2Proof.Machine
end

section
/-! PROOFS. The frame of an instruction in memory: its stores, one byte or two, are writes at the addresses its form computes. -/

namespace Sys2Proof.Machine

/-! ### The stores of an instruction -/

/-- Reading a register operand only emits. -/
theorem afterReadR8_eq_emit (r : R8) (s : State) : ∃ ds, afterReadR8 r s = emit ds s := by
  cases r with
  | hlm => exact ⟨_, rfl⟩
  | _ => exact ⟨[], (emit_nil s).symm⟩

/-- The memory unit `m` is that of `s` after a write at `a`, which the read of an operand may precede. -/
def WritesByte (a : Word) (s : State) (m : Mmu) : Prop :=
  ∃ ds v, m = (memWrite a v (emit ds s)).mmu

theorem writesByte_memWrite (a : Word) (v : Byte) (s : State) : WritesByte a s (memWrite a v s).mmu :=
  ⟨[], v, by rw [emit_nil]⟩

theorem writesByte_writeR8 (r : R8) (v : Byte) (s : State) :
    WritesByte s.cpu.hl s (writeR8 .hlm v (afterReadR8 r s)).mmu := by
  obtain ⟨ds, h⟩ := afterReadR8_eq_emit r s
  exact ⟨ds, v, by rw [h]; rfl⟩

/-- A CB operation on (HL) that stores, under `CB_IMPL = FULL`. -/
theorem writesByte_cbGate {op : State → State} {s : State} {a : Word} (hop : WritesByte s.cpu.hl s (op s).mmu)
    (h : (if s.config.cbImpl = .full then some s.cpu.hl else none) = some a) (cbop : Byte) :
    WritesByte a s (cbGate cbop op s).mmu := by
  unfold cbGate
  split at h
  · next hfull => cases h; rwa [if_pos hfull]
  · cases h

/-- A form that stores one byte changes the memory unit by that write only. -/
theorem writesByte_execForm {f : Form} {s : State} {a : Word} (h : storedByte f s = some a) :
    WritesByte a s (execForm f s).mmu := by
  cases f with
  | storeInd m =>
    cases h
    rw [show (execForm (.storeInd m) s).mmu = _ from indUpdate_mmu m _]
    exact writesByte_memWrite _ _ s
  | storeAbs | storeHigh | storeHighC => cases h; exact writesByte_memWrite _ _ s
  | ldImm dst v =>
    cases dst with
    | hlm => cases h; exact writesByte_memWrite _ v s
    | _ => cases h
  | ld dst src =>
    cases dst with
    | hlm => cases h; exact writesByte_writeR8 src _ s
    | _ => cases h
  | incReg r | decReg r =>
    cases r with
    | hlm => cases h; exact writesByte_writeR8 .hlm _ s
    | _ => cases h
  | rot op r =>
    cases r with
    | hlm => exact writesByte_cbGate (op := rotReg op .hlm) (writesByte_writeR8 .hlm _ s) h _
    | _ => cases h
  | res b r =>
    cases r with
    | hlm => exact writesByte_cbGate (op := resReg b .hlm) (writesByte_writeR8 .hlm _ s) h _
    | _ => cases h
  | set b r =>
    cases r with
    | hlm => exact writesByte_cbGate (op := setReg b .hlm) (writesByte_writeR8 .hlm _ s) h _
    | _ => cases h
  | _ => cases h

theorem push16_mmu (v : Word) (s : State) :
    (push16 v s).mmu = (memWrite (s.cpu.sp - 2) (loByte v) (memWrite (s.cpu.sp - 1) (hiByte v) s)).mmu := by
  rw [push16_eq]
  rfl

/-- A form that stores two bytes changes the memory unit by these two writes only. -/
theorem execForm_mmu_word {f : Form} {s : State} {a b : Word} {v w : Byte} (h : storedWord f s = some ((a, v), (b, w))) :
    (execForm f s).mmu = (memWrite b w (memWrite a v s)).mmu := by
  cases f with
  | push p | call a | rst y => cases h; exact push16_mmu _ s
  | callCond cc a =>
    unfold storedWord at h
    dsimp only at h
    split at h
    · next hc =>
      cases h
      exact (congrArg State.mmu (if_pos hc)).trans (push16_mmu _ s)
    · cases h
  | storeSp a =>
    cases h
    show (memWrite _ (hiByte (memWrite _ _ s).cpu.sp) _).mmu = _
    rw [memWrite_cpu]
  | _ => cases h

/-! ### Reads after an instruction -/

/-- What a read of memory answers after an instruction depends on the memory unit it leaves only. -/
theorem readByte_execForm {f : Form} {s t : State} (hm : (execForm f s).mmu = t.mmu) (ht : SameOutsideMmu s t) (x : Word) :
    readByte (execForm f s) x = readByte t x :=
  readByte_congr hm ((execForm_frame f s).cart.trans ht.cart.symm)
    ((execForm_frame f s).pressedMask.trans ht.pressedMask.symm) x

theorem storeReaches_emit (ds : List Diag) (s : State) (a x : Word) :
    storeReaches (emit ds s) a x = storeReaches s a x := by
  have hloc (y : Word) : locate (emit ds s) y = locate s y := locate_congr rfl rfl rfl rfl rfl rfl rfl y
  unfold storeReaches
  rw [hloc a, hloc x]
  rfl

theorem readByte_execForm_of_byte {f : Form} {s : State} {a x : Word} (hf : storedByte f s = some a)
    (h : ¬ storeReaches s a x) : readByte (execForm f s) x = readByte s x := by
  obtain ⟨ds, v, hm⟩ := writesByte_execForm hf
  have hsame := (SameOutsideMmu.of_emit s ds).trans (memWrite_same a v (emit ds s))
  rw [← storeReaches_emit ds] at h
  rw [readByte_execForm hm hsame, readByte_memWrite_other v h, readByte_emit]

theorem readByte_execForm_of_word {f : Form} {s : State} {a b x : Word} {v w : Byte}
    (hf : storedWord f s = some ((a, v), (b, w))) (ha : ¬ storeReaches s a x)
    (hb : ¬ storeReaches (memWrite a v s) b x) : readByte (execForm f s) x = readByte s x := by
  have hsame := (memWrite_same a v s).trans (memWrite_same b w (memWrite a v s))
  rw [readByte_execForm (execForm_mmu_word hf) hsame, readByte_memWrite_other w hb, readByte_memWrite_other v ha]

/-- Settles O35: no store, the one write, or the two writes of the instruction's form. -/
theorem memoryFrame : Obligations.MemoryFrame := by
  intro i s t hwf h x
  obtain rfl := execForm_of_exec h
  refine ⟨fun hbyte hword => ?_, fun a => readByte_execForm_of_byte, fun a v b w => readByte_execForm_of_word⟩
  exact readByte_execForm (execForm_mmu (form_ne_prefixCb hwf) hbyte hword) (.refl s) x

end Sys2Proof.Machine
end

section
/-! PROOFS. The decoder: what it answers for each format of R150, that it reads back what the encoder writes, and that the two
opcode maps are total (R161). -/

namespace Sys2Proof

/-! ### Decoding by format -/

/-- A 16-bit operand is read back from its two bytes, low byte first (R156). -/
theorem decode_imm16 {op : Byte} {mk : Word → Instr} (hop : op ≠ prefixByte) (hcell : mainCell op = some (.imm16 mk))
    (v : Word) (rest : List Byte) : decode (op :: (imm16Bytes v ++ rest)) = .ok (mk v, rest) := by
  simp [decode, hop, hcell, imm16Bytes]

theorem decode_cb {cbop : Byte} {i : Instr} (hcell : cbCell cbop = some i) (rest : List Byte) :
    decode (prefixByte :: cbop :: rest) = .ok (i, rest) := by
  simp [decode, decodeCb, hcell]

/-- Settles O1: the bare prefix is no whole instruction; a 16-bit operand is put together from its bytes; every other encoding
the maps send back to its row, with the operand byte as it stands. -/
theorem decodeEncode : Obligations.DecodeEncode := by
  intro i rest hwf
  cases i with
  | prefixCb => cases hwf
  | ldBC_d16 v | ldDE_d16 v | ldHL_d16 v | ldSP_d16 v | ldA16m_SP v | ldA16m_A v | ldA_A16m v
  | jp_a16 v | jpNZ_a16 v | jpZ_a16 v | jpNC_a16 v | jpC_a16 v
  | call_a16 v | callNZ_a16 v | callZ_a16 v | callNC_a16 v | callC_a16 v => exact decode_imm16 (by decide) rfl v rest
  | _ => rfl

/-! ### The cells of the two maps -/

/-- The length of a cell's instruction (R150). -/
def Cell.length : Cell → Nat
  | .plain _ => 1
  | .skipOne _ | .imm8 _ => 2
  | .imm16 _ => 3

/-- The instruction of a cell when these two bytes follow the opcode. -/
def Cell.instr (b1 b2 : Byte) : Cell → Instr
  | .plain i | .skipOne i => i
  | .imm8 mk => mk b1
  | .imm16 mk => mk (wordOfBytes b1 b2)

theorem Cell.length_range (c : Cell) : 1 ≤ c.length ∧ c.length ≤ 3 := by
  cases c <;> simp [Cell.length]

theorem lengthOf_of_mainCell {op : Byte} {c : Cell} (hop : op ≠ prefixByte) (hcell : mainCell op = some c) :
    lengthOf op = c.length := by
  cases c <;> simp [lengthOf, operandBytes, hop, hcell, Cell.length]

theorem decode_of_mainCell {op : Byte} {c : Cell} (hop : op ≠ prefixByte) (hcell : mainCell op = some c) (b1 b2 : Byte) :
    decode [op, b1, b2] = .ok (c.instr b1 b2, [op, b1, b2].drop c.length) := by
  cases c <;> simp [decode, hop, hcell, Cell.length, Cell.instr]

/-- Every byte but the prefix has a cell on the main page, whose instructions are whole (R158). -/
theorem exists_mainCell (b1 b2 : Byte) :
    ∀ op : Byte, op ≠ prefixByte → ∃ c ∈ mainCell op, WellFormed (c.instr b1 b2) = true :=
  of_decide_eq_true rfl

/-- Every byte has a cell on the CB page, a whole instruction (R160). -/
theorem exists_cbCell : ∀ cbop : Byte, ∃ i ∈ cbCell cbop, WellFormed i = true := by
  decide

/-- Settles O3: after the prefix the CB page has the cell, for any other byte the main page. -/
theorem decodeTotal : Obligations.DecodeTotal := by
  intro op b1 b2
  by_cases hop : op = prefixByte
  · subst hop
    obtain ⟨i, hcell, hwf⟩ := exists_cbCell b1
    exact ⟨i, decode_cb hcell [b2], hwf, by decide, by decide⟩
  · obtain ⟨c, hcell, hwf⟩ := exists_mainCell b1 b2 op hop
    rw [lengthOf_of_mainCell hop hcell]
    exact ⟨_, decode_of_mainCell hop hcell b1 b2, hwf, c.length_range⟩

end Sys2Proof
end

section
/-! PROOFS. The bare prefix: the CB page by the fields of its byte (R400), and the meaning of PREFIX CB (R367). -/

namespace Sys2Proof.Machine

/-! ### The fields of a CB byte -/

theorem byteXYZ_fields (v : Byte) : byteXYZ (v.extractLsb' 6 2) (v.extractLsb' 3 3) (v.extractLsb' 0 3) = v := by
  revert v; decide

theorem index_r8OfIndex (z : BitVec 3) : (r8OfIndex z).index = z := by
  revert z; decide

theorem index_rotOfIndex (y : BitVec 3) : (rotOfIndex y).index = y := by
  revert y; decide

/-- The form of a CB byte by its fields `x`, `y`, `z` (R400). -/
def cbForm (cbop : Byte) : Form :=
  let y := cbop.extractLsb' 3 3
  let r := r8OfIndex (cbop.extractLsb' 0 3)
  match cbop.extractLsb' 6 2 with
  | 0 => .rot (rotOfIndex y) r
  | 1 => .bit y r
  | 2 => .res y r
  | 3 => .set y r

/-- The CB page is laid out by the fields. -/
theorem form_of_cbCell {cbop : Byte} {i : Instr} (h : cbCell cbop = some i) : i.form = cbForm cbop := by
  have hmap : ∀ b : Byte, (cbCell b).map Instr.form = some (cbForm b) := by decide
  simpa [h] using hmap cbop

/-- The operation the fields select is that of the form, and the form's second byte is the byte itself. -/
theorem execForm_cbForm (cbop : Byte) (s : State) :
    execForm (cbForm cbop) s = cbGate cbop (cbOperation cbop) s := by
  have hbyte := byteXYZ_fields cbop
  unfold cbForm cbOperation
  generalize cbop.extractLsb' 6 2 = x at hbyte ⊢
  split <;> simp only [execForm, index_r8OfIndex, index_rotOfIndex, BitVec.ofNat_eq_ofNat, hbyte]

/-- PREFIX CB fetches its second byte and is the operation that byte's fields select (R367). -/
theorem prefixCb_eq (s : State) :
    prefixCb s = cbGate (readByte s s.cpu.pc) (cbOperation (readByte s s.cpu.pc)) (afterFetch 1 s) := by
  simp only [prefixCb, fetch8_eq]

/-- Settles O30: both sides are the operation of the second byte, after its fetch. -/
theorem prefixCbRow : Obligations.PrefixCb := by
  intro s row hdec
  obtain ⟨i, hcell, -⟩ := exists_cbCell (readByte s s.cpu.pc)
  cases (decode_cb hcell []).symm.trans hdec
  refine ⟨?_, _, exec_eq_execForm .prefixCb s⟩
  calc exec .prefixCb s
      = .next (cbGate (readByte s s.cpu.pc) (cbOperation (readByte s s.cpu.pc)) (afterFetch 1 s)) :=
        congrArg Host.Outcome.next (prefixCb_eq s)
    _ = exec row (afterFetch 1 s) := by
        rw [exec_eq_execForm, form_of_cbCell hcell, execForm_cbForm]

end Sys2Proof.Machine
end

section
/-! PROOFS. The 8-bit loads between register operands (R200): an opcode per pair of operands, and what it does. -/

namespace Sys2Proof.Machine

/-- Bytes that are an instruction of a form execute to what the form gives. -/
theorem executes_execForm {bytes : List Byte} {f : Form} (hf : ∃ i, decode bytes = .ok (i, []) ∧ i.form = f) (s : State) :
    Executes bytes s (execForm f s) := by
  obtain ⟨i, hi, rfl⟩ := hf
  exact ⟨i, hi, exec_eq_execForm i s⟩

/-- Rows 0x40 to 0x7F of the main page are the loads; the place of `LD (HL),(HL)` holds HALT (R158). -/
theorem decode_ld {dst src : R8} (h : ¬(dst = .hlm ∧ src = .hlm)) :
    ∃ i, decode [0x40 + 8 * field dst.index + field src.index] = .ok (i, []) ∧ i.form = .ld dst src := by
  cases dst
  case hlm =>
    cases src
    case hlm => exact absurd ⟨rfl, rfl⟩ h
    all_goals exact ⟨_, rfl, rfl⟩
  all_goals cases src <;> exact ⟨_, rfl, rfl⟩

/-- Settles O7: the opcode is the load of its two operands, which is `ldReg`. -/
theorem loadRegister : Obligations.LoadRegister :=
  fun s _ _ h => executes_execForm (decode_ld h) s

end Sys2Proof.Machine
end

section
/-! PROOFS. The 8-bit ALU instructions (R250 to R258), SCF and CCF (R263, R264), and decimal arithmetic with DAA (R261). -/

namespace Sys2Proof.Machine

/-! ### The two families (R250) -/

theorem decode_aluReg (op : AluOp) (r : R8) :
    ∃ i, decode [0x80 + 8 * field op.index + field r.index] = .ok (i, []) ∧ i.form = .aluReg op r := by
  cases op <;> cases r <;> exact ⟨_, rfl, rfl⟩

theorem decode_aluImm (op : AluOp) (n : Byte) :
    ∃ i, decode [0xC6 + 8 * field op.index, n] = .ok (i, []) ∧ i.form = .aluImm op n := by
  cases op <;> exact ⟨_, rfl, rfl⟩

/-- What an operation does to A and the flags, both its families do. -/
theorem aluRuns_of_aluOp (op : AluOp) {post : Byte → State → State} (h : ∀ v t, aluOp op v t = post v t) :
    AluRuns op.index post := by
  refine fun s => ⟨fun r => ?register, fun n => ?immediate⟩
  case register =>
    rw [← h]
    exact executes_execForm (decode_aluReg op r) s
  case immediate =>
    rw [← h]
    exact executes_execForm (decode_aluImm op n) s

/-! ### Carries and results as numbers (R12) -/

theorem lowNibble_eq_mod (v : Byte) : lowNibble v = v.toNat % 16 :=
  (BitVec.toNat_and v 0x0F).trans (Nat.and_two_pow_sub_one_eq_mod v.toNat 4)

theorem bitNat_eq_toNat (b : Bool) : bitNat b = b.toNat := by
  cases b <;> rfl

theorem halfCarryAdd_eq (a v : Byte) (c : Nat) : halfCarryAdd a v c = decide (a.toNat % 16 + v.toNat % 16 + c > 15) := by
  simp only [halfCarryAdd, lowNibble_eq_mod]

theorem halfBorrowSub_eq (a v : Byte) (c : Nat) : halfBorrowSub a v c = decide (a.toNat % 16 < v.toNat % 16 + c) := by
  simp only [halfBorrowSub, lowNibble_eq_mod]

theorem add_eq_ofNat (a v : Byte) (c : Nat) : a + v + BitVec.ofNat 8 c = BitVec.ofNat 8 (a.toNat + v.toNat + c) := by
  simp only [BitVec.ofNat_add, BitVec.ofNat_toNat, BitVec.setWidth_eq]

theorem sub_eq_ofInt (a v : Byte) (c : Nat) :
    a - v - BitVec.ofNat 8 c = BitVec.ofInt 8 ((a.toNat : Int) - v.toNat - c) := by
  simp only [Int.sub_eq_add_neg, BitVec.ofInt_add, BitVec.ofInt_neg, BitVec.ofInt_natCast, BitVec.ofNat_toNat,
    BitVec.setWidth_eq, BitVec.sub_eq_add_neg]

/-! ### The operations -/

/-- The sum with a carry `c`, its result and flags as numbers: ADC (R252), and ADD with `c = 0` (R251). -/
theorem setFlags_sum (v : Byte) (c : Nat) (s : State) {r : Byte} (hr : r = s.cpu.a + v + BitVec.ofNat 8 c) :
    setFlags (some (r == 0)) (some false) (some (halfCarryAdd s.cpu.a v c)) (some (carryAdd s.cpu.a v c)) (setA r s) =
      withAF (BitVec.ofNat 8 (s.cpu.a.toNat + v.toNat + c))
        (flagByte (decide (BitVec.ofNat 8 (s.cpu.a.toNat + v.toNat + c) = 0)) false
          (decide (s.cpu.a.toNat % 16 + v.toNat % 16 + c > 15)) (decide (s.cpu.a.toNat + v.toNat + c > 255))) s := by
  rw [hr, add_eq_ofNat, halfCarryAdd_eq]
  rfl

/-- The difference with a borrow `c`, as numbers: SBC (R254), and SUB with `c = 0` (R253). -/
theorem setFlags_difference (v : Byte) (c : Nat) (s : State) {r : Byte} (hr : r = s.cpu.a - v - BitVec.ofNat 8 c) :
    setFlags (some (r == 0)) (some true) (some (halfBorrowSub s.cpu.a v c)) (some (borrowSub s.cpu.a v c)) (setA r s) =
      withAF (BitVec.ofInt 8 ((s.cpu.a.toNat : Int) - v.toNat - c))
        (flagByte (decide (BitVec.ofInt 8 ((s.cpu.a.toNat : Int) - v.toNat - c) = 0)) true
          (decide (s.cpu.a.toNat % 16 < v.toNat % 16 + c)) (decide (s.cpu.a.toNat < v.toNat + c))) s := by
  rw [hr, sub_eq_ofInt, halfBorrowSub_eq]
  rfl

/-- Settles O14: ADD and ADC are the sum with a carry, SUB and SBC the difference with a borrow. -/
theorem addSubtract : Obligations.AddSubtract := by
  refine ⟨aluRuns_of_aluOp .add fun v t => ?add, aluRuns_of_aluOp .adc fun v t => ?adc,
    aluRuns_of_aluOp .sub fun v t => ?sub, aluRuns_of_aluOp .sbc fun v t => ?sbc⟩
  case add => exact setFlags_sum v 0 t (BitVec.add_zero _).symm
  case adc => exact (setFlags_sum v (bitNat (flagC t)) t rfl).trans (by rw [bitNat_eq_toNat])
  case sub =>
    have h := setFlags_difference v 0 t (BitVec.sub_zero _).symm
    rw [Int.natCast_zero, Int.sub_zero] at h
    exact h
  case sbc => exact (setFlags_difference v (bitNat (flagC t)) t rfl).trans (by rw [bitNat_eq_toNat])

/-- The flags of a comparison: equality, and the two borrows (R258). -/
theorem cpA_eq (v : Byte) (s : State) :
    cpA v s = withF (flagByte (decide (s.cpu.a = v)) true (decide (s.cpu.a.toNat % 16 < v.toNat % 16))
      (decide (s.cpu.a.toNat < v.toNat))) s := by
  have hiff : s.cpu.a - v = 0 ↔ s.cpu.a = v := by
    rw [BitVec.sub_eq_iff_eq_add, show 0 + v = v from BitVec.zero_add v]
  have hz : decide (s.cpu.a - v = 0) = decide (s.cpu.a = v) := decide_eq_decide.mpr hiff
  rw [← hz, ← lowNibble_eq_mod, ← lowNibble_eq_mod]
  rfl

theorem xorA_eq (v : Byte) (s : State) :
    xorA v s = withAF (s.cpu.a ^^^ v) (flagByte (decide (s.cpu.a = v)) false false false) s := by
  have hz : decide (s.cpu.a ^^^ v = 0) = decide (s.cpu.a = v) := decide_eq_decide.mpr BitVec.xor_eq_zero_iff
  rw [← hz]
  rfl

theorem orA_eq (v : Byte) (s : State) :
    orA v s = withAF (s.cpu.a ||| v) (flagByte (decide (s.cpu.a = 0 ∧ v = 0)) false false false) s := by
  have hz : decide (s.cpu.a ||| v = 0) = decide (s.cpu.a = 0 ∧ v = 0) := decide_eq_decide.mpr BitVec.or_eq_zero_iff
  rw [← hz]
  rfl

/-- Settles O15: when the result is zero is said of the operands; the other flags are constant, or the borrows of CP. -/
theorem logicCompare : Obligations.LogicCompare :=
  ⟨aluRuns_of_aluOp .and fun _ _ => rfl, aluRuns_of_aluOp .xor xorA_eq, aluRuns_of_aluOp .or orA_eq,
    aluRuns_of_aluOp .cp cpA_eq⟩

/-- Settles O19: both instructions set all four flags, Z to what it was. -/
theorem carryFlag : Obligations.CarryFlag :=
  fun s => ⟨executes_execForm (f := .scf) ⟨_, rfl, rfl⟩ s, executes_execForm (f := .ccf) ⟨_, rfl, rfl⟩ s⟩

/-! ### DAA (R261) -/

/-- The two parts of the correction share no bit, so they add up. -/
theorem daaCorrection_eq_ofNat (low high : Bool) :
    (if low then 0x06 else 0x00 : Byte) ||| (if high then 0x60 else 0x00) =
      BitVec.ofNat 8 ((if low then 6 else 0) + (if high then 96 else 0)) := by
  cases low <;> cases high <;> rfl

/-- DAA with N clear adds the correction; with H or C set, or a digit too large, a part of it applies. -/
theorem daa_cpu_a_of_not_flagN {s : State} (hn : flagN s = false) :
    (daa s).cpu.a.toNat = (s.cpu.a.toNat + ((if flagH s ∨ s.cpu.a.toNat % 16 > 9 then 6 else 0) +
      (if flagC s ∨ s.cpu.a.toNat > 0x99 then 96 else 0))) % 256 := by
  simp only [daa, setFlags_cpu_a, setA_cpu_a, daaCorrection_eq_ofNat, hn, daaLow, daaHigh, lowNibble_eq_mod]
  simp

/-- DAA with N set subtracts the correction, whose parts H and C select. -/
theorem daa_cpu_a_of_flagN {s : State} (hn : flagN s = true) :
    (daa s).cpu.a.toNat = (256 - ((if flagH s then 6 else 0) + (if flagC s then 96 else 0)) + s.cpu.a.toNat) % 256 := by
  have hcorr : (if flagH s then 6 else 0) + (if flagC s then 96 else 0) < 256 := by
    split <;> split <;> decide
  simp only [daa, setFlags_cpu_a, setA_cpu_a, daaCorrection_eq_ofNat, hn, daaLow, daaHigh, if_true, BitVec.toNat_sub,
    BitVec.toNat_ofNat, Nat.reducePow, Nat.mod_eq_of_lt hcorr]

/-- C after DAA says whether the 0x60 part applied: where it did not, C was clear and is kept. -/
theorem flagC_daa (s : State) : flagC (daa s) = daaHigh s.cpu.a (flagN s) (flagC s) := by
  have hkept : daaHigh s.cpu.a (flagN s) (flagC s) = false → flagC s = false := by
    cases hc : flagC s <;> simp [daaHigh]
  rw [daa, flagC_setFlags]
  cases hhigh : daaHigh s.cpu.a (flagN s) (flagC s) with
  | false => exact hkept hhigh
  | true => rfl

theorem executes_daa {s t : State} (h : Executes [0x27] s t) : t = daa s :=
  eq_execForm_of_executes (f := .daa) ⟨_, rfl, rfl⟩ h

/-! ### DAA after ADD and after SUB -/

theorem flagN_addA (v : Byte) (s : State) : flagN (addA v s) = false :=
  flagN_setFlags _ _ _ _ _

theorem flagH_addA (v : Byte) (s : State) : flagH (addA v s) = decide (s.cpu.a.toNat % 16 + v.toNat % 16 > 15) :=
  (flagH_setFlags _ _ _ _ _).trans (halfCarryAdd_eq s.cpu.a v 0)

theorem flagC_addA (v : Byte) (s : State) : flagC (addA v s) = decide (s.cpu.a.toNat + v.toNat > 255) :=
  flagC_setFlags _ _ _ _ _

theorem addA_cpu_a (v : Byte) (s : State) : (addA v s).cpu.a = s.cpu.a + v := rfl

theorem flagN_subA (v : Byte) (s : State) : flagN (subA v s) = true :=
  flagN_setFlags _ _ _ _ _

theorem flagH_subA (v : Byte) (s : State) : flagH (subA v s) = decide (s.cpu.a.toNat % 16 < v.toNat % 16) :=
  (flagH_setFlags _ _ _ _ _).trans (halfBorrowSub_eq s.cpu.a v 0)

theorem flagC_subA (v : Byte) (s : State) : flagC (subA v s) = decide (s.cpu.a.toNat < v.toNat) :=
  flagC_setFlags _ _ _ _ _

theorem subA_cpu_a (v : Byte) (s : State) : (subA v s).cpu.a = s.cpu.a - v := rfl

/-- The carry out of a byte or what is left in it: together they say that the exact sum exceeds 0x99. -/
theorem carry_or_mod_gt_iff (n : Nat) : n > 255 ∨ n % 256 > 0x99 ↔ n > 0x99 := by
  omega

/-- In terms of the exact sum, each part of the correction applies where its digits exceed 9. -/
theorem daa_addA_cpu_a (v : Byte) (s : State) :
    (daa (addA v s)).cpu.a.toNat = ((s.cpu.a.toNat + v.toNat) % 256 +
      ((if s.cpu.a.toNat % 16 + v.toNat % 16 > 9 then 6 else 0) + (if s.cpu.a.toNat + v.toNat > 0x99 then 96 else 0))) %
        256 := by
  have hlow : s.cpu.a.toNat % 16 + v.toNat % 16 > 15 ∨ (s.cpu.a.toNat + v.toNat) % 256 % 16 > 9 ↔
      s.cpu.a.toNat % 16 + v.toNat % 16 > 9 := by omega
  rw [daa_cpu_a_of_not_flagN (flagN_addA v s)]
  simp only [flagH_addA, flagC_addA, addA_cpu_a, BitVec.toNat_add, decide_eq_true_eq, Nat.reducePow, hlow,
    carry_or_mod_gt_iff]

theorem flagC_daa_addA (v : Byte) (s : State) :
    flagC (daa (addA v s)) = decide (s.cpu.a.toNat + v.toNat > 0x99) := by
  rw [flagC_daa, flagN_addA, flagC_addA, addA_cpu_a, daaHigh, if_neg Bool.false_ne_true, ← Bool.decide_or,
    BitVec.toNat_add]
  exact decide_eq_decide.mpr (carry_or_mod_gt_iff _)

theorem daa_subA_cpu_a (v : Byte) (s : State) :
    (daa (subA v s)).cpu.a.toNat =
      (256 - ((if s.cpu.a.toNat % 16 < v.toNat % 16 then 6 else 0) + (if s.cpu.a.toNat < v.toNat then 96 else 0)) +
        (256 - v.toNat + s.cpu.a.toNat) % 256) % 256 := by
  rw [daa_cpu_a_of_flagN (flagN_subA v s)]
  simp only [flagH_subA, flagC_subA, subA_cpu_a, BitVec.toNat_sub, decide_eq_true_eq, Nat.reducePow]

theorem flagC_daa_subA (v : Byte) (s : State) : flagC (daa (subA v s)) = decide (s.cpu.a.toNat < v.toNat) := by
  rw [flagC_daa, flagN_subA, flagC_subA, daaHigh, if_pos rfl]

/-! ### Decimal digits -/

theorem exists_digits {v : Byte} (hv : isDecimal v) :
    ∃ hi lo, hi ≤ 9 ∧ lo ≤ 9 ∧ v.toNat = 16 * hi + lo ∧ decimal v = 10 * hi + lo :=
  ⟨v.toNat / 16, v.toNat % 16, hv.1, hv.2, (Nat.div_add_mod _ _).symm, rfl⟩

theorem isDecimal_of_digits {v : Byte} {hi lo : Nat} (hhi : hi ≤ 9) (hlo : lo ≤ 9) (hv : v.toNat = 16 * hi + lo) :
    isDecimal v ∧ decimal v = 10 * hi + lo := by
  unfold isDecimal decimal
  omega

/-- The sum of two digits and a carry is a digit and a carry. -/
theorem exists_digit_of_sum {m : Nat} (hm : m ≤ 19) : ∃ carry d, carry ≤ 1 ∧ d ≤ 9 ∧ m = 10 * carry + d :=
  ⟨m / 10, m % 10, by omega, by omega, by omega⟩

/-- The difference of two digits, less a borrow, is a digit and a borrow. -/
theorem exists_digit_of_difference {x y : Nat} (hx : x ≤ 9) (hy : y ≤ 10) :
    ∃ borrow d, borrow ≤ 1 ∧ d ≤ 9 ∧ x + 10 * borrow = y + d := by
  obtain hlt | hle := Nat.lt_or_ge x y
  · exact ⟨1, x + 10 - y, by omega, by omega, by omega⟩
  · exact ⟨0, x - y, by omega, by omega, by omega⟩

theorem add_gt_iff_decimal_carry {a b : Byte} (ha : isDecimal a) (hb : isDecimal b) :
    a.toNat + b.toNat > 0x99 ↔ decimal a + decimal b ≥ 100 := by
  unfold isDecimal decimal at *
  omega

theorem lt_iff_decimal_lt {a b : Byte} (ha : isDecimal a) (hb : isDecimal b) :
    a.toNat < b.toNat ↔ decimal a < decimal b := by
  unfold isDecimal decimal at *
  omega

/-- Two additions modulo 2^8, from the exact sum. -/
theorem add_add_mod_of_exact {a v c r k : Nat} (hr : r < 256) (hexact : a + v + c = 256 * k + r) :
    ((a + v) % 256 + c) % 256 = r := by
  omega

/-- Two subtractions modulo 2^8, from the exact difference. -/
theorem sub_sub_mod_of_exact {a v c r k : Nat} (hv : v ≤ 256) (hc : c ≤ 256) (hr : r < 256)
    (hexact : a + 256 * k = v + c + r) : (256 - c + (256 - v + a) % 256) % 256 = r := by
  omega

/-- A difference modulo 100, from the exact difference. -/
theorem sub_mod_of_exact {a v r k : Nat} (hk : k ≤ 1) (hr : r < 100) (hexact : a + 100 * k = v + r) :
    (a + 100 - v) % 100 = r := by
  omega

/-- DAA after ADD adds 6 in each digit that carries in decimal, which takes 10 off that digit and carries 1. -/
theorem daa_addA_decimal {v : Byte} {s : State} (ha : isDecimal s.cpu.a) (hv : isDecimal v) :
    isDecimal (daa (addA v s)).cpu.a ∧ decimal (daa (addA v s)).cpu.a = (decimal s.cpu.a + decimal v) % 100 ∧
      flagC (daa (addA v s)) = decide (decimal s.cpu.a + decimal v ≥ 100) := by
  obtain ⟨ahi, alo, hahi, halo, hanat, hadec⟩ := exists_digits ha
  obtain ⟨vhi, vlo, hvhi, hvlo, hvnat, hvdec⟩ := exists_digits hv
  obtain ⟨clo, lo, hclo, hlo, hlosum⟩ := exists_digit_of_sum (m := alo + vlo) (by omega)
  obtain ⟨chi, hi, hchi, hhi, hhisum⟩ := exists_digit_of_sum (m := ahi + vhi + clo) (by omega)
  have hbound : 10 * hi + lo < 100 := by omega
  have hsum : decimal s.cpu.a + decimal v = 100 * chi + (10 * hi + lo) := by omega
  have hlow : (if s.cpu.a.toNat % 16 + v.toNat % 16 > 9 then 6 else 0) = 6 * clo := by
    split <;> omega
  have hhigh : (if s.cpu.a.toNat + v.toNat > 0x99 then 96 else 0) = 96 * chi := by
    split <;> omega
  have hexact : s.cpu.a.toNat + v.toNat + (6 * clo + 96 * chi) = 256 * chi + (16 * hi + lo) := by omega
  have hr : (daa (addA v s)).cpu.a.toNat = 16 * hi + lo := by
    rw [daa_addA_cpu_a, hlow, hhigh, add_add_mod_of_exact (by omega) hexact]
  obtain ⟨hdec, hval⟩ := isDecimal_of_digits hhi hlo hr
  refine ⟨hdec, ?value, (flagC_daa_addA v s).trans (decide_eq_decide.mpr (add_gt_iff_decimal_carry ha hv))⟩
  case value => rw [hval, hsum, Nat.mul_add_mod, Nat.mod_eq_of_lt hbound]

/-- DAA after SUB subtracts 6 in each digit that borrows, which makes the 16 of that borrow a 10. -/
theorem daa_subA_decimal {v : Byte} {s : State} (ha : isDecimal s.cpu.a) (hv : isDecimal v) :
    isDecimal (daa (subA v s)).cpu.a ∧ decimal (daa (subA v s)).cpu.a = (decimal s.cpu.a + 100 - decimal v) % 100 ∧
      flagC (daa (subA v s)) = decide (decimal s.cpu.a < decimal v) := by
  obtain ⟨ahi, alo, hahi, halo, hanat, hadec⟩ := exists_digits ha
  obtain ⟨vhi, vlo, hvhi, hvlo, hvnat, hvdec⟩ := exists_digits hv
  obtain ⟨blo, lo, hblo, hlo, hlodiff⟩ := exists_digit_of_difference halo (Nat.le_succ_of_le hvlo)
  obtain ⟨bhi, hi, hbhi, hhi, hhidiff⟩ := exists_digit_of_difference hahi (Nat.add_le_add hvhi hblo)
  have hbound : 10 * hi + lo < 100 := by omega
  have hdiff : decimal s.cpu.a + 100 * bhi = decimal v + (10 * hi + lo) := by omega
  have hlow : (if s.cpu.a.toNat % 16 < v.toNat % 16 then 6 else 0) = 6 * blo := by
    split <;> omega
  have hhigh : (if s.cpu.a.toNat < v.toNat then 96 else 0) = 96 * bhi := by
    split <;> omega
  have hexact : s.cpu.a.toNat + 256 * bhi = v.toNat + (6 * blo + 96 * bhi) + (16 * hi + lo) := by omega
  have hr : (daa (subA v s)).cpu.a.toNat = 16 * hi + lo := by
    rw [daa_subA_cpu_a, hlow, hhigh, sub_sub_mod_of_exact (by omega) (by omega) (by omega) hexact]
  obtain ⟨hdec, hval⟩ := isDecimal_of_digits hhi hlo hr
  refine ⟨hdec, ?value, (flagC_daa_subA v s).trans (decide_eq_decide.mpr (lt_iff_decimal_lt ha hv))⟩
  case value => rw [hval, sub_mod_of_exact hbhi hbound hdiff]

/-- Settles O18: the two instructions are `addA` and `subA` of B, then `daa`. -/
theorem decimalArithmetic : Obligations.DecimalArithmetic := by
  refine fun s t u ha hb => ⟨fun hadd hdaa => ?sum, fun hsub hdaa => ?difference⟩
  case sum =>
    have ht : t = addA s.cpu.b s := eq_execForm_of_executes (decode_aluReg .add .b) hadd
    rw [executes_daa hdaa, ht]
    exact daa_addA_decimal ha hb
  case difference =>
    have ht : t = subA s.cpu.b s := eq_execForm_of_executes (decode_aluReg .sub .b) hsub
    rw [executes_daa hdaa, ht]
    exact daa_subA_decimal ha hb

end Sys2Proof.Machine
end

section
/-! PROOFS. The joypad (R480 to R482): the bits of the P1 projection, and what a refresh and a press change. -/

namespace Sys2Proof.Machine

/-! ### Raw slots -/

theorem slot_setSlot_same {s : State} (hio : s.mmu.io.wf ioSize) (k : Nat) (v : Byte) : slot (setSlot k v s) k = v :=
  Memory.byteAt_store_same hio.1 k v

/-- The address of a slot reads the slot, with the overlays (R92). -/
theorem readByte_io {x : Word} {k : Nat} (hx : x.toNat = 0xFF00 + k) (hk : k < ioSize) (s : State) :
    readByte s x = ioRead s k := by
  have hsize : ioSize = 128 := rfl
  rw [readByte, locate_io s (by omega) (by omega), hx, Nat.add_sub_cancel_left, readPlace]

/-! ### The P1 projection (R480) -/

theorem joypRead_high (p1 mask : Byte) :
    (joypRead p1 mask).getLsbD 7 = true ∧ (joypRead p1 mask).getLsbD 6 = true ∧
      (joypRead p1 mask).getLsbD 5 = p1.getLsbD 5 ∧ (joypRead p1 mask).getLsbD 4 = p1.getLsbD 4 := by
  simp [joypRead]

theorem joypRead_low (p1 mask : Byte) {k : Nat} (hk : k < 4) :
    (joypRead p1 mask).getLsbD k =
      !((!p1.getLsbD 5 && mask.getLsbD k) || (!p1.getLsbD 4 && mask.getLsbD (k + 4))) := by
  have hfixed : ∀ j, j < 4 → (0xC0#8).getLsbD j = false ∧ (0x30#8).getLsbD j = false ∧ (0x0F#8).getLsbD j = true := by
    decide
  obtain ⟨hC0, h30, h0F⟩ := hfixed k hk
  simp only [joypRead, apply_ite (BitVec.getLsbD · k), BitVec.getLsbD_or, BitVec.getLsbD_and, BitVec.getLsbD_not,
    BitVec.getLsbD_ushiftRight, BitVec.ofNat_eq_ofNat, hC0, h30, h0F, Nat.add_comm 4 k]
  cases p1.getLsbD 5 <;> cases p1.getLsbD 4 <;> simp [Nat.lt_trans hk, Bool.and_comm]

/-- The projection of a projection is itself: it keeps the selection. -/
theorem joypRead_joypRead (p1 mask : Byte) : joypRead (joypRead p1 mask) mask = joypRead p1 mask := by
  obtain ⟨h7, h6, h5, h4⟩ := joypRead_high p1 mask
  obtain ⟨g7, g6, g5, g4⟩ := joypRead_high (joypRead p1 mask) mask
  refine BitVec.eq_of_getLsbD_eq fun k hk => ?_
  by_cases hlow : k < 4
  · rw [joypRead_low _ mask hlow, joypRead_low _ mask hlow, h5, h4]
  · obtain rfl | rfl | rfl | rfl : k = 4 ∨ k = 5 ∨ k = 6 ∨ k = 7 := by omega
    · exact g4
    · exact g5
    · exact g6.trans h6.symm
    · exact g7.trans h7.symm

theorem readByte_p1 (s : State) : readByte s 0xFF00 = joypRead (slot s slotP1) s.pressedMask :=
  readByte_io (k := slotP1) rfl (by decide) s

/-! ### A refresh (R482) -/

theorem slot_updateRegister_p1 {s : State} (hio : s.mmu.io.wf ioSize) :
    slot (updateRegister s) slotP1 = joypRead (slot s slotP1) s.pressedMask :=
  slot_setSlot_same hio _ _

theorem slot_updateRegister_other (s : State) {k : Nat} (hk : k ≠ slotP1) : slot (updateRegister s) k = slot s k :=
  slot_setSlot_other _ s hk.symm

/-- No read tells a refresh: a read of P1 computes the projection anyway. -/
theorem readByte_updateRegister {s : State} (hio : s.mmu.io.wf ioSize) (x : Word) :
    readByte (updateRegister s) x = readByte s x := by
  by_cases hx : locate s x = .io slotP1
  · obtain rfl : x = 0xFF00 := BitVec.eq_of_toNat_eq (toNat_of_locate_io hx)
    calc readByte (updateRegister s) 0xFF00
        = joypRead (joypRead (slot s slotP1) s.pressedMask) s.pressedMask := by
          rw [readByte_p1, slot_updateRegister_p1 hio]; rfl
      _ = readByte s 0xFF00 := by rw [joypRead_joypRead, readByte_p1]
  · exact readByte_setSlot_other _ _ _ _ hx

/-! ### A press (R481) -/

theorem getLsbD_putBit (mask : Byte) (j : Nat) (on : Bool) {k : Nat} (hk : k < 8) :
    (putBit mask j on).getLsbD k = if k = j then on else mask.getLsbD k := by
  have hbit : (1#8 <<< j).getLsbD k = decide (k = j) := by
    rw [← BitVec.twoPow_eq, BitVec.getLsbD_twoPow]
    by_cases hkj : k = j
    · simp [← hkj, hk]
    · simp [hkj, Ne.symm hkj]
  simp only [putBit, apply_ite (BitVec.getLsbD · k), BitVec.getLsbD_or, BitVec.getLsbD_and, BitVec.getLsbD_not, hbit]
  by_cases hkj : k = j <;> cases on <;> simp [hk, hkj]

/-- Settles O50: the projection bit by bit; a refresh stores it in its slot; a press is a refresh under the new mask. -/
theorem joypad : Obligations.Joypad := by
  intro s button pressed hs
  refine ⟨?read, ?refresh, ?press⟩
  case read =>
    obtain ⟨h7, h6, h5, h4⟩ := joypRead_high (slot s 0x00) s.pressedMask
    dsimp only
    rw [readByte_p1]
    exact ⟨rfl, h7, h6, h5, h4, fun k hk => joypRead_low _ _ hk⟩
  case refresh =>
    exact ⟨slot_updateRegister_p1 hs.ioWf, fun k hk => slot_updateRegister_other s hk, rfl, readByte_updateRegister hs.ioWf⟩
  case press =>
    let held := { s with pressedMask := putBit s.pressedMask button.val pressed }
    exact ⟨fun k hk => getLsbD_putBit _ _ _ hk, slot_updateRegister_p1 (s := held) hs.ioWf,
      fun k hk => slot_updateRegister_other held hk, rfl⟩

end Sys2Proof.Machine
end

section
/-! PROOFS. The PPU step (R460 to R463): the loop of lines in closed form, the STAT byte, and the two cases of the LCD. -/

namespace Sys2Proof.Machine

/-! ### The frame of a PPU step -/

theorem ppuStep_eq (c : Nat) (s : State) :
    ppuStep c s = { s with ppu := (ppuStep c s).ppu, mmu := { s.mmu with io := (ppuStep c s).mmu.io } } := by
  have hdevices := (ppuStep_only c s).eq
  rwa [ppuStep_timer] at hdevices

/-! ### STAT (R463) -/

theorem slot_synthStat_stat {s : State} (hio : s.mmu.io.wf ioSize) :
    slot (synthStat s) slotStat =
      (slot s slotStat &&& 0xF8) ||| (if s.ppu.ly = (slot s slotLyc).toNat then 0x04 else 0x00) |||
        (synthStat s).ppu.mode.number :=
  slot_setSlot_same (s := { s with ppu := (synthStat s).ppu }) hio slotStat _

theorem slot_synthStat_other (s : State) {k : Nat} (hk : k ≠ slotStat) : slot (synthStat s) k = slot s k :=
  slot_setSlot_other _ { s with ppu := (synthStat s).ppu } hk.symm

/-! ### The LCD off (R461) -/

/-- The PPU at the origin and LY's slot zero: what a disabled LCD forces before STAT is made. -/
def atOrigin (s : State) : State := setSlot slotLy 0x00 { s with ppu := Ppu.reset }

theorem lcdOff_eq (s : State) : lcdOff s = synthStat (atOrigin s) := rfl

theorem atOrigin_ioWf {s : State} (hio : s.mmu.io.wf ioSize) : (atOrigin s).mmu.io.wf ioSize :=
  Memory.wf_store hio (by decide) 0x00

theorem slot_atOrigin_other (s : State) {k : Nat} (hk : k ≠ slotLy) : slot (atOrigin s) k = slot s k :=
  slot_setSlot_other _ { s with ppu := Ppu.reset } hk.symm

theorem slot_lcdOff_ly {s : State} (hio : s.mmu.io.wf ioSize) : slot (lcdOff s) slotLy = 0 := by
  rw [lcdOff_eq, slot_synthStat_other _ (by decide)]
  exact slot_setSlot_same (s := { s with ppu := Ppu.reset }) hio slotLy 0

theorem lcdOff_ppu {s : State} (hoff : lcdOn s = false) : (lcdOff s).ppu = Ppu.reset := by
  have hoff : lcdOn (atOrigin s) = false := (congrArg (·.getLsbD 7) (slot_atOrigin_other s (by decide))).trans hoff
  rw [lcdOff_eq, synthStat_ppu, if_neg (Bool.eq_false_iff.1 hoff)]
  rfl

theorem slot_lcdOff_stat {s : State} (hio : s.mmu.io.wf ioSize) (hoff : lcdOn s = false) :
    slot (lcdOff s) slotStat = (slot s slotStat &&& 0xF8) ||| (if slot s slotLyc = 0 then 0x04 else 0x00) := by
  have hlyc : (atOrigin s).ppu.ly = (slot s slotLyc).toNat ↔ slot s slotLyc = 0 :=
    eq_comm.trans (BitVec.toNat_eq (y := (0 : Byte))).symm
  have hmode : (synthStat (atOrigin s)).ppu.mode.number = 0 := by rw [← lcdOff_eq, lcdOff_ppu hoff]; rfl
  rw [lcdOff_eq, slot_synthStat_stat (atOrigin_ioWf hio), slot_atOrigin_other s (k := slotStat) (by decide),
    slot_atOrigin_other s (k := slotLyc) (by decide), hmode]
  simp only [hlyc]
  exact BitVec.or_zero

/-- A STAT byte with mode 0 and any coincidence bit shows mode 0. -/
theorem stat_mode_zero (v : Byte) (p : Prop) [Decidable p] :
    ((v &&& 0xF8) ||| (if p then 0x04 else 0x00)) &&& 0x03 = 0 := by
  have hhigh : v &&& 0xF8 &&& 0x03 = 0 := by rw [BitVec.and_assoc]; exact BitVec.and_zero
  rw [BitVec.and_or_distrib_right, hhigh]
  split <;> rfl

/-- Settles O46: the step is `lcdOff`. -/
theorem ppuOff : Obligations.PpuOff := by
  intro s c hs hoff
  have hstep : ppuStep c s = lcdOff s := if_neg (Bool.eq_false_iff.1 hoff)
  have hly : slot (lcdOff s) slotLy = 0 := slot_lcdOff_ly hs.ioWf
  have hstat := slot_lcdOff_stat hs.ioWf hoff
  have hframe := ppuStep_eq c s
  rw [hstep] at hframe
  dsimp only
  rw [hstep]
  refine ⟨lcdOff_ppu hoff, hly, hstat, fun k hk hk' => ?_, hframe, ?_, ?_⟩
  · exact (slot_synthStat_other _ hk).trans (slot_atOrigin_other s hk')
  · rw [readByte_io (k := slotLy) rfl (by decide), ioRead_eq_slot (by decide) (by decide) (by decide), hly]
  · rw [readByte_io (k := slotStat) rfl (by decide), ioRead_eq_slot (by decide) (by decide) (by decide), hstat]
    exact stat_mode_zero _ _

/-! ### One line (R462) -/

theorem nextLine_ly {s : State} (hly : s.ppu.ly < linesPerFrame) : (nextLine s).ppu.ly = (s.ppu.ly + 1) % linesPerFrame := by
  rw [nextLine_ppu]
  split
  · next hwraps => rw [hwraps, Nat.mod_self]
  · next hnext => exact (Nat.mod_eq_of_lt (show s.ppu.ly + 1 < linesPerFrame by omega)).symm

theorem nextLine_ly_add {s : State} (hly : s.ppu.ly < linesPerFrame) (k : Nat) :
    ((nextLine s).ppu.ly + k) % linesPerFrame = (s.ppu.ly + (k + 1)) % linesPerFrame := by
  rw [nextLine_ly hly, Nat.mod_add_mod, Nat.add_assoc, Nat.add_comm 1]

/-- A pass of the loop before the VBlank request: the line's dots taken off, LY advanced, the latch cleared at the wrap. -/
def lineBegun (s : State) : State :=
  { s with ppu := { s.ppu with
      dot := s.ppu.dot - dotsPerLine
      ly := if s.ppu.ly + 1 = linesPerFrame then 0 else s.ppu.ly + 1
      vblankLatched := if s.ppu.ly + 1 = linesPerFrame then false else s.ppu.vblankLatched } }

theorem nextLine_eq (s : State) :
    nextLine s = setSlot slotLy (BitVec.ofNat 8 (nextLine s).ppu.ly)
      (if (lineBegun s).ppu.ly = vblankLine ∧ (lineBegun s).ppu.vblankLatched = false then enterVblank (lineBegun s)
       else lineBegun s) := rfl

theorem lineBegun_ly (s : State) : (lineBegun s).ppu.ly = (nextLine s).ppu.ly := by
  rw [nextLine_ppu, apply_ite Ppu.ly]
  rfl

theorem slot_lineBegun (s : State) (k : Nat) : slot (lineBegun s) k = slot s k := by
  rw [slot, slot, lineBegun]

/-- Line 144 begins with the latch clear, so each entry requests VBlank. -/
theorem lineBegun_latch {s : State} (h : LineInv s.ppu) (hentry : (lineBegun s).ppu.ly = vblankLine) :
    (lineBegun s).ppu.vblankLatched = false := by
  have hlast : vblankLine = 144 := rfl
  unfold lineBegun at hentry ⊢
  dsimp only at hentry ⊢
  split at hentry
  · exact if_pos ‹_›
  · rw [if_neg ‹_›, h.latch]
    exact decide_eq_false (by omega)

theorem slot_enterVblank_if {s : State} (hio : s.mmu.io.wf ioSize) : slot (enterVblank s) slotIf = slot s slotIf ||| 0x01 :=
  slot_setSlot_same (s := { s with ppu := { s.ppu with vblankLatched := true } }) hio slotIf _

theorem slot_nextLine_ly {s : State} (hio : s.mmu.io.wf ioSize) :
    slot (nextLine s) slotLy = BitVec.ofNat 8 (nextLine s).ppu.ly := by
  refine (congrArg (slot · slotLy) (nextLine_eq s)).trans (slot_setSlot_same ?_ slotLy _)
  exact (OnlyDevices.ite (enterVblank_only (lineBegun s)) (.refl _)).ioWf hio

theorem slot_nextLine_if {s : State} (hio : s.mmu.io.wf ioSize) (h : LineInv s.ppu) :
    slot (nextLine s) slotIf =
      if (nextLine s).ppu.ly = vblankLine then slot s slotIf ||| 0x01 else slot s slotIf := by
  have hother : slotLy ≠ slotIf := by decide
  rw [← lineBegun_ly, nextLine_eq, slot_setSlot_other _ _ hother, slot_ite, slot_enterVblank_if (s := lineBegun s) hio]
  simp only [and_iff_left_of_imp (lineBegun_latch h), slot_lineBegun]

/-! ### The loop of lines -/

theorem advanceLines_ly {n : Nat} {s : State} (h : LineInv s.ppu) :
    (advanceLines n s).ppu.ly = (s.ppu.ly + n) % linesPerFrame := by
  induction n generalizing s with
  | zero => exact (Nat.mod_eq_of_lt h.ly).symm
  | succ n ih => rw [advanceLines, ih h.nextLine, nextLine_ly_add h.ly]

theorem slot_advanceLines_other (n : Nat) (s : State) {k : Nat} (hly : k ≠ slotLy) (hif : k ≠ slotIf) :
    slot (advanceLines n s) k = slot s k := by
  induction n generalizing s with
  | zero => rfl
  | succ n ih => rw [advanceLines, ih, slot_nextLine s hly.symm hif.symm]

/-- LY's slot is the last line begun, if any was. -/
theorem slot_advanceLines_ly {n : Nat} {s : State} (hio : s.mmu.io.wf ioSize) :
    slot (advanceLines n s) slotLy = if n = 0 then slot s slotLy else BitVec.ofNat 8 (advanceLines n s).ppu.ly := by
  induction n generalizing s with
  | zero => rfl
  | succ n ih =>
    rw [if_neg (Nat.succ_ne_zero n), advanceLines, ih ((nextLine_only s).ioWf hio)]
    split
    · next hlast => rw [hlast]; exact slot_nextLine_ly hio
    · rfl

/-- Passes that do not enter line 144 request nothing. -/
theorem slot_advanceLines_if_of_no_entry {n : Nat} {s : State} (hio : s.mmu.io.wf ioSize) (h : LineInv s.ppu)
    (hno : ∀ k, 1 ≤ k → k ≤ n → (s.ppu.ly + k) % linesPerFrame ≠ vblankLine) :
    slot (advanceLines n s) slotIf = slot s slotIf := by
  induction n generalizing s with
  | zero => rfl
  | succ n ih =>
    have hfirst : (nextLine s).ppu.ly ≠ vblankLine := nextLine_ly h.ly ▸ hno 1 (Nat.le_refl 1) (by omega)
    rw [advanceLines, ih ((nextLine_only s).ioWf hio) h.nextLine fun k hk hk' => ?_, slot_nextLine_if hio h, if_neg hfirst]
    rw [nextLine_ly_add h.ly]
    exact hno (k + 1) (by omega) (by omega)

/-- Passes that enter line 144 request VBlank: once or more is the same bit. -/
theorem slot_advanceLines_if_of_entry {n : Nat} {s : State} (hio : s.mmu.io.wf ioSize) (h : LineInv s.ppu)
    (hentry : ∃ k, 1 ≤ k ∧ k ≤ n ∧ (s.ppu.ly + k) % linesPerFrame = vblankLine) :
    slot (advanceLines n s) slotIf = slot s slotIf ||| 0x01 := by
  induction n generalizing s with
  | zero => obtain ⟨k, hk, hk', -⟩ := hentry; omega
  | succ n ih =>
    have hio' := (nextLine_only s).ioWf hio
    rw [advanceLines]
    by_cases hlater : ∃ k, 1 ≤ k ∧ k ≤ n ∧ ((nextLine s).ppu.ly + k) % linesPerFrame = vblankLine
    · rw [ih hio' h.nextLine hlater, slot_nextLine_if hio h]
      split
      · rw [BitVec.or_assoc, BitVec.or_self]
      · rfl
    · have hfirst : (nextLine s).ppu.ly = vblankLine := by
        obtain ⟨k, hk, hk', heq⟩ := hentry
        obtain rfl | hlt : k = 1 ∨ 1 < k := by omega
        · exact (nextLine_ly h.ly).trans heq
        · refine absurd ⟨k - 1, by omega, by omega, ?_⟩ hlater
          rwa [nextLine_ly_add h.ly, Nat.sub_add_cancel hk]
      rw [slot_advanceLines_if_of_no_entry hio' h.nextLine fun k hk hk' heq => hlater ⟨k, hk, hk', heq⟩,
        slot_nextLine_if hio h, if_pos hfirst]

/-! ### The LCD on (R460, R462) -/

/-- The PPU with the step's dots added, before the loop. -/
def dotsAdded (c : Nat) (s : State) : State := { s with ppu := { s.ppu with dot := s.ppu.dot + dotsPerCycle * c } }

/-- How many lines a step of `c` cycles begins. -/
def linesBegun (c : Nat) (s : State) : Nat := (s.ppu.dot + dotsPerCycle * c) / dotsPerLine

theorem ppuAdvance_eq (c : Nat) (s : State) : ppuAdvance c s = advanceLines (linesBegun c s) (dotsAdded c s) := rfl

theorem lcdOn_ppuAdvance (c : Nat) (s : State) : lcdOn (ppuAdvance c s) = lcdOn s :=
  lcdOn_advanceLines _ (dotsAdded c s)

theorem ppuAdvance_ly {c : Nat} {s : State} (h : LineInv s.ppu) :
    (ppuAdvance c s).ppu.ly = (s.ppu.ly + linesBegun c s) % linesPerFrame :=
  advanceLines_ly (s := dotsAdded c s) ⟨h.ly, h.latch⟩

theorem ppuAdvance_dot {c : Nat} {s : State} (h : LineInv s.ppu) :
    (ppuAdvance c s).ppu.dot = (s.ppu.dot + dotsPerCycle * c) % dotsPerLine := by
  rw [ppuAdvance_eq, (advanceLines_spec (s := dotsAdded c s) ⟨h.ly, h.latch⟩).2, Nat.mod_eq_sub_div_mul]
  rfl

/-- The beam, as one number, advances by four dots a cycle modulo the frame. -/
theorem ppuAdvance_beam {c : Nat} {s : State} (h : LineInv s.ppu) :
    (ppuAdvance c s).ppu.ly * dotsPerLine + (ppuAdvance c s).ppu.dot =
      (s.ppu.ly * dotsPerLine + s.ppu.dot + dotsPerCycle * c) % (linesPerFrame * dotsPerLine) := by
  have hdots : dotsPerLine = 456 := rfl
  have hlines : linesPerFrame = 154 := rfl
  rw [ppuAdvance_ly h, ppuAdvance_dot h, linesBegun, hdots, hlines]
  omega

theorem ppuStep_on {c : Nat} {s : State} (hon : lcdOn s = true) : ppuStep c s = synthStat (ppuAdvance c s) :=
  if_pos hon

theorem ppuStep_on_ppu {c : Nat} {s : State} (hon : lcdOn s = true) :
    (ppuStep c s).ppu =
      { (ppuAdvance c s).ppu with mode := modeAt (ppuAdvance c s).ppu.ly (ppuAdvance c s).ppu.dot } := by
  rw [ppuStep_on hon, synthStat_ppu, lcdOn_ppuAdvance, if_pos hon]

theorem slot_ppuStep_on_stat {c : Nat} {s : State} (hio : s.mmu.io.wf ioSize) (hon : lcdOn s = true) :
    slot (ppuStep c s) slotStat =
      (slot s slotStat &&& 0xF8) ||| (if (ppuStep c s).ppu.ly = (slot s slotLyc).toNat then 0x04 else 0x00) |||
        (ppuStep c s).ppu.mode.number := by
  have hkept {k : Nat} (hly : k ≠ slotLy) (hif : k ≠ slotIf) : slot (ppuAdvance c s) k = slot s k :=
    slot_advanceLines_other _ (dotsAdded c s) hly hif
  have hio : (ppuAdvance c s).mmu.io.wf ioSize := (advanceLines_only _ (dotsAdded c s)).ioWf hio
  rw [ppuStep_on hon, slot_synthStat_stat hio, hkept (by decide) (by decide), hkept (by decide) (by decide)]
  rfl

theorem slot_ppuStep_on {c : Nat} {s : State} (hon : lcdOn s = true) {k : Nat} (hk : k ≠ slotStat) :
    slot (ppuStep c s) k = slot (advanceLines (linesBegun c s) (dotsAdded c s)) k := by
  rw [ppuStep_on hon, slot_synthStat_other _ hk, ppuAdvance_eq]

/-- Settles O47: the loop of lines in closed form, then STAT. -/
theorem ppuOn : Obligations.PpuOn := by
  intro s c hs hon
  obtain ⟨-, -, -, ⟨hline, -, -⟩, -⟩ := (inv_iff s).1 hs
  have hio : (dotsAdded c s).mmu.io.wf ioSize := hs.ioWf
  have hadded : LineInv (dotsAdded c s).ppu := ⟨hline.ly, hline.latch⟩
  have hppu := ppuStep_on_ppu (c := c) hon
  refine ⟨?beam, ?dot, ?mode, ?lySlot, fun hentry => ?entry, fun hno => ?noEntry, ?stat, fun k hif hstat hly => ?other,
    ppuStep_eq c s⟩
  case beam => rw [hppu]; exact ppuAdvance_beam hline
  case dot => rw [hppu]; exact Nat.lt_of_le_of_lt (Nat.le_of_eq (ppuAdvance_dot hline)) (Nat.mod_lt _ (by decide))
  case mode => rw [hppu]; rfl
  case lySlot => rw [slot_ppuStep_on hon (by decide), hppu]; exact slot_advanceLines_ly hio
  case entry => rw [slot_ppuStep_on hon (by decide)]; exact slot_advanceLines_if_of_entry hio hadded hentry
  case noEntry => rw [slot_ppuStep_on hon (by decide)]; exact slot_advanceLines_if_of_no_entry hio hadded hno
  case stat => exact slot_ppuStep_on_stat hs.ioWf hon
  case other => rw [slot_ppuStep_on hon hstat]; exact slot_advanceLines_other _ (dotsAdded c s) hly hif

end Sys2Proof.Machine
end

section
/-! PROOFS. A booted machine never stops (R373, R430): the fetched bytes always decode, every instruction answers a next state,
and nothing in a step touches what the host fixed. -/

namespace Sys2Proof.Machine

/-! ### A step always answers -/

/-- The operand bytes that an opcode asks for are those its decoding needs (R161). -/
theorem exists_decode_of_operandBytes {op : Byte} {operands : List Byte} (hlen : operands.length = operandBytes op) :
    ∃ i rest, decode (op :: operands) = .ok (i, rest) := by
  by_cases hop : op = prefixByte
  · obtain ⟨cbop, rfl⟩ := List.length_eq_one_iff.1 (by simpa [operandBytes, hop] using hlen)
    obtain ⟨i, hcell, -⟩ := exists_cbCell cbop
    exact ⟨i, [], hop ▸ decode_cb hcell []⟩
  · obtain ⟨c, hcell, -⟩ := exists_mainCell 0 0 op hop
    have hcell : mainCell op = some c := hcell
    cases c with
    | plain i => exact ⟨i, operands, by simp only [decode, if_neg hop, hcell]⟩
    | skipOne i => exact ⟨i, operands.drop 1, by simp only [decode, if_neg hop, hcell]⟩
    | imm8 mk =>
      obtain ⟨v, rfl⟩ := List.length_eq_one_iff.1 (by simpa [operandBytes, hop, hcell] using hlen)
      exact ⟨mk v, [], by simp only [decode, if_neg hop, hcell]⟩
    | imm16 mk =>
      have hlen : operands.length = 2 := by simpa [operandBytes, hop, hcell] using hlen
      obtain ⟨lo, tail, rfl⟩ := List.exists_cons_of_length_eq_add_one hlen
      obtain ⟨hi, rfl⟩ := List.length_eq_one_iff.1 (Nat.succ.inj hlen)
      exact ⟨mk (wordOfBytes lo hi), [], by simp only [decode, if_neg hop, hcell]⟩

theorem exists_fetchInstr (s : State) : ∃ i u, fetchInstr s = some (i, u) := by
  let fetched := fetchBytes (operandBytes (readByte s s.cpu.pc)) (afterFetch 1 s)
  have hlen : fetched.1.length = operandBytes (readByte s s.cpu.pc) := by simp [fetched, fetchBytes_eq]
  obtain ⟨i, rest, hdec⟩ := exists_decode_of_operandBytes hlen
  exact ⟨i, fetched.2, by simp only [fetchInstr, fetch8_eq, fetched, hdec]⟩

theorem exists_runInstr (s : State) : ∃ t c, runInstr s = .next (t, c) := by
  obtain ⟨i, u, hfetch⟩ := exists_fetchInstr s
  exact ⟨execForm i.form u, cycles i u, by simp only [runInstr, hfetch, exec_eq_execForm]⟩

theorem exists_cpuStep (s : State) : ∃ t c, cpuStep s = .next (t, c) := by
  obtain ⟨-, -, hcpu⟩ | ⟨-, -, hcpu⟩ | ⟨-, -, hcpu⟩ := cpuStep_cases s
  · exact ⟨_, _, hcpu⟩
  · exact ⟨_, _, hcpu⟩
  · exact hcpu ▸ exists_runInstr (beforeFetch s)

/-! ### What a step keeps -/

/-- What no step changes: the configuration, the cartridge, the pressed buttons, the boot stage, and the records already
emitted. -/
structure SameConsole (s t : State) : Prop where
  config : t.config = s.config
  cart : t.cart = s.cart
  pressedMask : t.pressedMask = s.pressedMask
  stage : t.stage = s.stage
  diag : s.diag <+: t.diag

theorem SameConsole.refl (s : State) : SameConsole s s := ⟨rfl, rfl, rfl, rfl, List.prefix_refl _⟩

theorem SameConsole.trans {s t u : State} (h : SameConsole s t) (g : SameConsole t u) : SameConsole s u :=
  ⟨g.config.trans h.config, g.cart.trans h.cart, g.pressedMask.trans h.pressedMask, g.stage.trans h.stage,
    h.diag.trans g.diag⟩

theorem Frame.sameConsole {rs : List RegName} {fs : List FlagName} {s t : State} (f : Frame rs fs s t) : SameConsole s t :=
  ⟨f.config, f.cart, f.pressedMask, f.stage, f.diag⟩

theorem OnlyDevices.sameConsole {s t : State} (d : OnlyDevices s t) : SameConsole s t :=
  ⟨d.config, d.cart, d.pressedMask, d.stage, d.diag ▸ List.prefix_refl _⟩

theorem wake_sameConsole (s : State) : SameConsole s (wake s) := ⟨rfl, rfl, rfl, rfl, List.prefix_refl _⟩

theorem setIme_sameConsole (ime scheduled : Bool) (s : State) : SameConsole s (setIme ime scheduled s) :=
  ⟨rfl, rfl, rfl, rfl, List.prefix_refl _⟩

theorem beforeFetch_sameConsole (s : State) : SameConsole s (beforeFetch s) := by
  rw [beforeFetch_eq]
  exact ⟨rfl, rfl, rfl, rfl, List.prefix_refl _⟩

/-- Taking an interrupt pushes PC, jumps, and clears one IF bit and IME (R442). -/
theorem service_sameConsole (p : Byte) (s : State) : SameConsole s (service p s) :=
  have hcall : Frame [.sp] [] s (callTo (vector (lowestBit p)) s) := (Frame.refl s).callTo (.head _) _
  (hcall.setSlot (by decide) _).sameConsole.trans (setIme_sameConsole false false _)

theorem runInstr_sameConsole {s t : State} {c : Nat} (h : runInstr s = .next (t, c)) : SameConsole s t := by
  obtain ⟨n, f, rfl⟩ := runInstr_spec h
  have hfetch : Frame [] [] s (afterFetch n (afterFetch 1 s)) := ((Frame.refl s).afterFetch 1).afterFetch n
  exact hfetch.sameConsole.trans (execForm_frame f _).sameConsole

theorem cpuStep_sameConsole {s t : State} {c : Nat} (h : cpuStep s = .next (t, c)) : SameConsole s t := by
  obtain ⟨-, -, hcpu⟩ | ⟨-, -, hcpu⟩ | ⟨-, -, hcpu⟩ := cpuStep_cases s <;> rw [hcpu] at h
  · cases h; exact .refl s
  · cases h; exact (wake_sameConsole s).trans (service_sameConsole _ _)
  · exact (beforeFetch_sameConsole s).trans (runInstr_sameConsole h)

/-- Settles O57: the CPU step answers and the tail of the run loop cannot fail; neither touches what the host fixed. -/
theorem stepNeverStops : Obligations.StepNeverStops := by
  refine fun s => ⟨fun hrun => ?booted, step_of_not_runnable⟩
  case booted =>
    obtain ⟨u, c, hcpu⟩ := exists_cpuStep s
    obtain ⟨hconfig, hcart, hmask, hstage, hdiag⟩ :=
      (cpuStep_sameConsole hcpu).trans (afterCpuStep_only c u).sameConsole
    exact ⟨_, step_of_cpuStep hrun hcpu, hstage.trans hrun, hconfig, hcart, hmask, hdiag⟩

end Sys2Proof.Machine
end

section
/-! PROOFS. The console reset (R520 to R526) as one update of the state: the MMU's reset leaves the APU's reset nothing to
clear, and the joypad's stores the one slot that is not zero. -/

namespace Sys2Proof.Machine

/-- Zeroing slots of an all-zero I/O array changes nothing. -/
theorem clearSlots_of_io_nil {s : State} (hio : s.mmu.io = []) (n k : Nat) : clearSlots n k s = s := by
  induction n generalizing k with
  | zero => rfl
  | succ n ih =>
    have hslot : setSlot k 0x00 s = s := by
      rw [setSlot, hio, show Memory.store [] k 0x00 = [] from rfl, ← hio]
    rw [clearSlots, hslot, ih]

/-- What the six resets leave, in one (R67). -/
theorem consoleReset_eq (s : State) :
    consoleReset s = { s with
      cpu := Cpu.reset, mmu := Mmu.consoleReset, ppu := Ppu.reset, timer := Timer.reset, pressedMask := 0x00
      stage := s.stage.afterReset } := by
  rw [consoleReset, apuReset, clearSlots_of_io_nil rfl]
  rfl

theorem consoleReset_mmu (s : State) : (consoleReset s).mmu = Mmu.consoleReset :=
  congrArg State.mmu (consoleReset_eq s)

theorem consoleReset_pressedMask (s : State) : (consoleReset s).pressedMask = 0x00 :=
  congrArg State.pressedMask (consoleReset_eq s)

theorem afterReset_afterReset (g : BootStage) : g.afterReset.afterReset = g.afterReset := by
  cases g <;> rfl

theorem consoleReset_consoleReset (s : State) : consoleReset (consoleReset s) = consoleReset s := by
  simp only [consoleReset_eq, afterReset_afterReset]

/-- P1's slot is the one that the reset leaves nonzero (R526). -/
theorem slot_consoleReset (s : State) (i : Nat) : slot (consoleReset s) i = if i = 0 then 0xFF else 0x00 := by
  rw [slot, consoleReset_mmu]
  by_cases hi : i = 0
  · subst hi
    rfl
  · rw [if_neg hi]
    exact if_neg (Ne.symm hi)

/-- Neither button group is selected (R526). -/
theorem readByte_consoleReset_p1 (s : State) : readByte (consoleReset s) 0xFF00 = 0xFF := by
  rw [readByte_p1, slot_consoleReset, consoleReset_pressedMask]
  rfl

theorem readByte_consoleReset_vbk (s : State) : readByte (consoleReset s) 0xFF4F = 0xFE := by
  rw [readByte_io (k := slotVbk) rfl (by decide), ioRead, consoleReset_mmu]
  rfl

theorem readByte_consoleReset_svbk (s : State) : readByte (consoleReset s) 0xFF70 = 0xF9 := by
  rw [readByte_io (k := slotSvbk) rfl (by decide), ioRead, consoleReset_mmu]
  rfl

/-- Settles O51: each field is that of `consoleReset_eq`; the slots, the overlays and the second reset have their own lemmas. -/
theorem consoleReset_spec : Obligations.ConsoleReset := by
  intro s
  have h := consoleReset_eq s
  refine ⟨congrArg (·.cpu) h, fun i => ?arrays, congrArg (·.mmu.ie) h, congrArg (·.mmu.romBankLow) h,
    congrArg (·.mmu.romBankHigh) h, congrArg (·.mmu.bankingMode) h, congrArg (·.mmu.ramEnabled) h,
    congrArg (·.mmu.vramBank) h, congrArg (·.mmu.wramBank) h, congrArg (·.ppu) h, congrArg (·.timer) h,
    congrArg (·.pressedMask) h, congrArg (·.cart) h, congrArg (·.config) h, congrArg (·.diag) h,
    readByte_consoleReset_p1 s, readByte_consoleReset_vbk s, readByte_consoleReset_svbk s, consoleReset_consoleReset s⟩
  case arrays =>
    exact ⟨congrArg (·.mmu.eram.byteAt i) h, congrArg (·.mmu.wram.byteAt i) h, congrArg (·.mmu.vram.byteAt i) h,
      congrArg (·.mmu.oam.byteAt i) h, congrArg (·.mmu.hram.byteAt i) h, slot_consoleReset s i⟩

end Sys2Proof.Machine
end

section
/-! PROOFS. Bytes that decode to a whole instruction are its encoding (R150, R161): what each cell of the two maps encodes to. -/

namespace Sys2Proof

/-! ### What the cells encode to -/

/-- The operand bytes that the encoder writes for a cell's instruction when these two bytes follow the opcode; STOP's is 0x00
whatever follows (R363). -/
def Cell.operands (b1 b2 : Byte) : Cell → List Byte
  | .plain _ => []
  | .skipOne _ => [0x00]
  | .imm8 _ => [b1]
  | .imm16 _ => imm16Bytes (wordOfBytes b1 b2)

/-- The rows of the main page (R158) against the encoder: the opcode is the cell's place, the operand bytes follow it. -/
theorem encode_mainRow (b1 b2 : Byte) (row : Nat) :
    (mainRow row).map (fun c => encode (c.instr b1 b2)) =
      ((mainRow row).zipIdx (16 * row)).map fun (c, place) => BitVec.ofNat 8 place :: c.operands b1 b2 := by
  unfold mainRow
  split <;> rfl

theorem encode_of_mainCell {op : Byte} {c : Cell} (hcell : mainCell op = some c) (b1 b2 : Byte) :
    encode (c.instr b1 b2) = op :: c.operands b1 b2 := by
  have hrow := congrArg (·[op.toNat % 16]?) (encode_mainRow b1 b2 (op.toNat / 16))
  unfold mainCell at hcell
  simpa only [List.getElem?_map, List.getElem?_zipIdx, hcell, Option.map_some, Option.some.injEq, Nat.div_add_mod,
    BitVec.ofNat_toNat, BitVec.setWidth_eq] using hrow

theorem encode_of_cbCell {cbop : Byte} {i : Instr} (hcell : cbCell cbop = some i) : encode i = [prefixByte, cbop] := by
  have hpage : ∀ b : Byte, (cbCell b).map encode = some [prefixByte, b] := by decide
  simpa [hcell] using hpage cbop

/-- STOP's cell is the one that skips a byte (R363). -/
theorem mainCell_skipOne {op : Byte} {i : Instr} (hcell : mainCell op = some (.skipOne i)) : op = 0x10 ∧ i = .stop := by
  have hpage : ∀ b : Byte, ∀ c ∈ mainCell b, c.operands 0x01 0x00 = [0x00] → b = 0x10 := by decide
  obtain rfl := hpage op _ hcell rfl
  cases hcell
  exact ⟨rfl, rfl⟩

/-- An instruction that is encoded at another opcode is not STOP. -/
theorem ne_stop_of_encode {i : Instr} {op : Byte} {tail : List Byte} (h : encode i = op :: tail) (hop : op ≠ 0x10) :
    i ≠ .stop := by
  rintro rfl
  exact hop (List.cons.inj h).1.symm

/-! ### The bytes of a decoded instruction -/

/-- Decoding at a cell: STOP's drops a byte; any other takes its operand bytes as they stand. -/
theorem tail_of_decode {op : Byte} {c : Cell} (hop : op ≠ prefixByte) (hcell : mainCell op = some c) {tail rest : List Byte}
    {i : Instr} (hdec : decode (op :: tail) = .ok (i, rest)) :
    (c = .skipOne i ∧ rest = tail.drop 1) ∨
      (∃ b1 b2, i = c.instr b1 b2 ∧ tail = c.operands b1 b2 ++ rest ∧ op ≠ 0x10) := by
  rw [decode, if_neg hop, hcell] at hdec
  have h10 : (∀ j, c ≠ .skipOne j) → op ≠ 0x10 := by
    rintro hc rfl
    exact hc .stop (Option.some.inj hcell).symm
  cases c with
  | plain j => cases hdec; exact .inr ⟨0, 0, rfl, rfl, h10 nofun⟩
  | skipOne j => cases hdec; exact .inl ⟨rfl, rfl⟩
  | imm8 mk =>
    match tail with
    | [] => cases hdec
    | v :: tail => cases hdec; exact .inr ⟨v, 0, rfl, rfl, h10 nofun⟩
  | imm16 mk =>
    match tail with
    | [] | [_] => cases hdec
    | lo :: hi :: tail =>
      cases hdec
      exact .inr ⟨lo, hi, rfl, by simp [Cell.operands, imm16Bytes], h10 nofun⟩

/-- Settles O2: after 0xCB the CB page's cell has the byte; on the main page a cell that does not skip a byte is encoded as
its opcode and the bytes it was given. -/
theorem encodeDecode : Obligations.EncodeDecode := by
  intro bytes rest i hdec hprefix
  match bytes with
  | [] => cases hdec
  | op :: tail =>
    by_cases hop : op = prefixByte
    · subst hop
      match tail with
      | [] => cases hdec; exact absurd rfl hprefix
      | cbop :: tail =>
        obtain ⟨j, hcell, -⟩ := exists_cbCell cbop
        cases (decode_cb hcell tail).symm.trans hdec
        have hencode := encode_of_cbCell hcell
        rw [if_neg (ne_stop_of_encode hencode (by decide)), hencode]
        rfl
    · obtain ⟨c, hcell, -⟩ := exists_mainCell 0 0 op hop
      obtain ⟨rfl, rfl⟩ | ⟨b1, b2, rfl, rfl, h10⟩ := tail_of_decode hop hcell hdec
      · obtain ⟨rfl, rfl⟩ := mainCell_skipOne hcell
        exact ⟨tail, rfl, rfl⟩
      · have hencode := encode_of_mainCell hcell b1 b2
        rw [if_neg (ne_stop_of_encode hencode h10), hencode]
        rfl

end Sys2Proof
end

section
/-! PROOFS. The loads and the stack (R201 to R222): the opcodes of each family, and what they do. -/

namespace Sys2Proof.Machine

/-! ### The opcodes -/

theorem decode_ldImm (r : R8) (v : Byte) : ∃ i, decode [0x06 + 8 * field r.index, v] = .ok (i, []) ∧ i.form = .ldImm r v := by
  cases r <;> exact ⟨_, rfl, rfl⟩

theorem decode_ldPairImm (p : Rp) (lo hi : Byte) :
    ∃ i, decode [0x01 + 16 * field p.index, lo, hi] = .ok (i, []) ∧ i.form = .ldPairImm p (hi ++ lo) := by
  cases p <;> exact ⟨_, rfl, rfl⟩

/-- Settles O8: the opcode is the load of its operand. -/
theorem loadImmediate : Obligations.LoadImmediate :=
  fun s => ⟨fun r v => executes_execForm (decode_ldImm r v) s, fun p lo hi => executes_execForm (decode_ldPairImm p lo hi) s⟩

/-! ### HL+ and HL- (R205, R206) -/

/-- The store leaves HL as the update finds it. -/
theorem storeInd_hlInc (s : State) : storeInd .hlInc s = setHl (s.cpu.hl + 1) (memWrite s.cpu.hl s.cpu.a s) := by
  rw [storeInd, indUpdate, indAddr, memWrite_cpu]

theorem storeInd_hlDec (s : State) : storeInd .hlDec s = setHl (s.cpu.hl - 1) (memWrite s.cpu.hl s.cpu.a s) := by
  rw [storeInd, indUpdate, indAddr, memWrite_cpu]

/-- Settles O9: each opcode is the access at its address, with HL's update after it. -/
theorem indirectAccumulator : Obligations.IndirectAccumulator := by
  intro s
  refine ⟨?storeBc, ?storeDe, ?storeInc, ?storeDec, ?loadBc, ?loadDe, ?loadInc, ?loadDec⟩
  case storeBc => exact executes_execForm (f := .storeInd .bc) ⟨_, rfl, rfl⟩ s
  case storeDe => exact executes_execForm (f := .storeInd .de) ⟨_, rfl, rfl⟩ s
  case storeInc => exact storeInd_hlInc s ▸ executes_execForm (f := .storeInd .hlInc) ⟨_, rfl, rfl⟩ s
  case storeDec => exact storeInd_hlDec s ▸ executes_execForm (f := .storeInd .hlDec) ⟨_, rfl, rfl⟩ s
  case loadBc => exact executes_execForm (f := .loadInd .bc) ⟨_, rfl, rfl⟩ s
  case loadDe => exact executes_execForm (f := .loadInd .de) ⟨_, rfl, rfl⟩ s
  case loadInc => exact executes_execForm (f := .loadInd .hlInc) ⟨_, rfl, rfl⟩ s
  case loadDec => exact executes_execForm (f := .loadInd .hlDec) ⟨_, rfl, rfl⟩ s

/-! ### The stack (R211 to R214) -/

/-- A pop as two reads in a row, the first of which leaves the second byte as it was. -/
theorem pop16_eq_afterRead (s : State) :
    pop16 s =
      (readByte s (s.cpu.sp + 1) ++ readByte s s.cpu.sp,
        setSp (s.cpu.sp + 2) (afterRead (afterRead s s.cpu.sp) (s.cpu.sp + 1))) :=
  congrArg (fun hi => (wordOfBytes (readByte s s.cpu.sp) hi, _)) (readByte_afterRead s s.cpu.sp (s.cpu.sp + 1))

theorem popPair_eq (p : Rp2) (s : State) :
    popPair p s =
      setRp2 p (readByte s (s.cpu.sp + 1) ++ readByte s s.cpu.sp)
        (setSp (s.cpu.sp + 2) (afterRead (afterRead s s.cpu.sp) (s.cpu.sp + 1))) := by
  rw [popPair, pop16_eq_afterRead]

/-- Settles O10: the two operations of the stack, on the pair. -/
theorem pushPop : Obligations.PushPop := by
  refine fun s p => ⟨?push, ?pop⟩
  case push => exact push16_eq (getRp2 p s) s ▸ executes_execForm (decode_push p) s
  case pop => exact popPair_eq p s ▸ executes_execForm (decode_pop p) s

/-! ### Absolute and high-page addresses (R156) -/

/-- The high page begins at 0xFF00, so an offset is its low byte. -/
theorem highPage_eq (n : Byte) : highPage n = (0xFF : Byte) ++ n := by
  revert n; decide

/-- Settles O12: the address is the operand's, or the operand's place in the high page. -/
theorem absoluteAndHighPage : Obligations.AbsoluteAndHighPage := by
  intro s lo hi n
  dsimp only
  rw [← highPage_eq, ← highPage_eq]
  refine ⟨?storeAbs, ?loadAbs, ?storeHigh, ?loadHigh, ?storeHighC, ?loadHighC⟩
  case storeAbs => exact executes_execForm (f := .storeAbs (hi ++ lo)) ⟨_, rfl, rfl⟩ s
  case loadAbs => exact executes_execForm (f := .loadAbs (hi ++ lo)) ⟨_, rfl, rfl⟩ s
  case storeHigh => exact executes_execForm (f := .storeHigh n) ⟨_, rfl, rfl⟩ s
  case loadHigh => exact executes_execForm (f := .loadHigh n) ⟨_, rfl, rfl⟩ s
  case storeHighC => exact executes_execForm (f := .storeHighC) ⟨_, rfl, rfl⟩ s
  case loadHighC => exact executes_execForm (f := .loadHighC) ⟨_, rfl, rfl⟩ s

/-! ### SP (R221, R222) -/

/-- The first store leaves SP as the second finds it. -/
theorem storeSp_eq (a : Word) (s : State) :
    storeSp a s = memWrite (a + 1) (hiByte s.cpu.sp) (memWrite a (loByte s.cpu.sp) s) := by
  rw [storeSp, memWrite_cpu]

/-- Settles O13: the two stores of SP, and the move from HL. -/
theorem stackPointerTransfers : Obligations.StackPointerTransfers := by
  refine fun s lo hi => ⟨?store, ?move⟩
  case store => exact storeSp_eq (hi ++ lo) s ▸ executes_execForm (f := .storeSp (hi ++ lo)) ⟨_, rfl, rfl⟩ s
  case move => exact executes_execForm (f := .ldSpHl) ⟨_, rfl, rfl⟩ s

end Sys2Proof.Machine
end

section
/-! PROOFS. INC and DEC (R259, R260), DAA (R261), CPL and the rotates (R262, R265 to R268), with every CB rotate's result in the
spec's words (R401 to R408). -/

namespace Sys2Proof.Machine

/-! ### INC and DEC (R259, R260) -/

theorem decode_incReg (r : R8) : ∃ i, decode [0x04 + 8 * field r.index] = .ok (i, []) ∧ i.form = .incReg r := by
  cases r <;> exact ⟨_, rfl, rfl⟩

theorem decode_decReg (r : R8) : ∃ i, decode [0x05 + 8 * field r.index] = .ok (i, []) ∧ i.form = .decReg r := by
  cases r <;> exact ⟨_, rfl, rfl⟩

/-- Reading an operand and writing it back leaves F alone. -/
theorem flagC_writeR8_afterReadR8 (r : R8) (v : Byte) (s : State) : flagC (writeR8 r v (afterReadR8 r s)) = flagC s := by
  cases r with
  | hlm => simp [writeR8, afterReadR8, flagC]
  | _ => rfl

theorem incReg_eq (r : R8) (s : State) :
    incReg r s =
      withF (flagByte (decide (r8Value r s = 0xFF)) false (decide ((r8Value r s).toNat % 16 = 15)) (flagC s))
        (writeR8 r (r8Value r s + 1) (afterReadR8 r s)) := by
  have hz : (r8Value r s + 1 == 0) = decide (r8Value r s = 0xFF) :=
    decide_eq_decide.mpr (by bv_omega)
  have hh : halfCarryAdd (r8Value r s) 1 0 = decide ((r8Value r s).toNat % 16 = 15) := by
    rw [halfCarryAdd_eq]
    exact decide_eq_decide.mpr (show _ % 16 + 1 + 0 > 15 ↔ _ by omega)
  rw [← flagC_writeR8_afterReadR8 r (r8Value r s + 1) s, ← hz, ← hh]
  rfl

theorem decReg_eq (r : R8) (s : State) :
    decReg r s =
      withF (flagByte (decide (r8Value r s = 0x01)) true (decide ((r8Value r s).toNat % 16 = 0)) (flagC s))
        (writeR8 r (r8Value r s - 1) (afterReadR8 r s)) := by
  have hz : (r8Value r s - 1 == 0) = decide (r8Value r s = 0x01) :=
    decide_eq_decide.mpr (by bv_omega)
  have hh : halfBorrowSub (r8Value r s) 1 0 = decide ((r8Value r s).toNat % 16 = 0) := by
    rw [halfBorrowSub_eq]
    exact decide_eq_decide.mpr (show _ % 16 < 1 + 0 ↔ _ by omega)
  rw [← flagC_writeR8_afterReadR8 r (r8Value r s - 1) s, ← hz, ← hh]
  rfl

/-- Settles O16: the flags of the model are carries of the addition and the subtraction of 1. -/
theorem incDec : Obligations.IncDec :=
  fun s r => ⟨incReg_eq r s ▸ executes_execForm (decode_incReg r) s, decReg_eq r s ▸ executes_execForm (decode_decReg r) s⟩

/-! ### DAA (R261) -/

theorem daaLow_eq (a : Byte) (n h : Bool) : daaLow a n h = (h || (!n && decide (a.toNat % 16 > 9))) := by
  cases n <;> simp [daaLow, lowNibble_eq_mod]

theorem daaHigh_eq (a : Byte) (n c : Bool) : daaHigh a n c = (c || (!n && decide (a.toNat > 0x99))) := by
  cases n <;> simp [daaHigh]

/-- A correction added or subtracted, as a number. -/
theorem add_correction_eq (a : Byte) (k : Nat) : a + BitVec.ofNat 8 k = BitVec.ofNat 8 (a.toNat + k) := by
  rw [BitVec.ofNat_add, BitVec.ofNat_toNat, BitVec.setWidth_eq]

theorem sub_correction_eq (a : Byte) (k : Nat) : a - BitVec.ofNat 8 k = BitVec.ofInt 8 ((a.toNat : Int) - k) := by
  simpa using sub_eq_ofInt a 0 k

theorem daa_cpu_a (s : State) :
    (daa s).cpu.a =
      if flagN s then
        BitVec.ofInt 8 ((s.cpu.a.toNat : Int) -
          ((if daaLow s.cpu.a (flagN s) (flagH s) then 6 else 0) + (if daaHigh s.cpu.a (flagN s) (flagC s) then 96 else 0) : Nat))
      else
        BitVec.ofNat 8 (s.cpu.a.toNat +
          ((if daaLow s.cpu.a (flagN s) (flagH s) then 6 else 0) + (if daaHigh s.cpu.a (flagN s) (flagC s) then 96 else 0))) := by
  rw [daa, setFlags_cpu_a, setA_cpu_a, daaCorrection_eq_ofNat, sub_correction_eq, add_correction_eq]

/-- DAA writes A and F only; Z is A's, C that of `flagC_daa`. -/
theorem daa_eq (s : State) :
    daa s = withAF (daa s).cpu.a
      (flagByte (decide ((daa s).cpu.a = 0)) (flagN s) false (daaHigh s.cpu.a (flagN s) (flagC s))) s := by
  rw [← flagC_daa, show flagC (daa s) = Option.getD _ _ from flagC_setFlags _ _ _ _ _]
  rfl

/-- Settles O17: the conditions in the spec's words, in A and in the flags. -/
theorem decimalAdjust : Obligations.DecimalAdjust := by
  intro s a low high corr r
  have hlow : daaLow s.cpu.a (flagN s) (flagH s) = low := daaLow_eq _ _ _
  have hhigh : daaHigh s.cpu.a (flagN s) (flagC s) = high := daaHigh_eq _ _ _
  have hr : (daa s).cpu.a = r := by rw [daa_cpu_a, hlow, hhigh]
  have hdaa := daa_eq s
  rw [hr, hhigh] at hdaa
  exact hdaa ▸ executes_execForm (f := .daa) ⟨_, rfl, rfl⟩ s

/-! ### CPL and the rotates (R262, R265 to R268, R401 to R408) -/

theorem rotResult_rlc (v : Byte) (c : Bool) : rotResult .rlc v c = v.rotateLeft 1 := by
  revert v c; decide

theorem rotResult_rrc (v : Byte) (c : Bool) : rotResult .rrc v c = v.rotateRight 1 := by
  revert v c; decide

theorem rotResult_rl (v : Byte) (c : Bool) : rotResult .rl v c = 2 * v + (if c then 1 else 0) := by
  revert v c; decide

theorem rotResult_rr (v : Byte) (c : Bool) : rotResult .rr v c = (v >>> 1) + 128 * (if c then 1 else 0) := by
  revert v c; decide

theorem rotResult_sla (v : Byte) (c : Bool) : rotResult .sla v c = 2 * v := by
  revert v c; decide

theorem rotResult_sra (v : Byte) (c : Bool) : rotResult .sra v c = v.sshiftRight 1 := by
  revert v c; decide

theorem rotResult_swap (v : Byte) (c : Bool) : rotResult .swap v c = v.rotateLeft 4 := by
  revert v c; decide

/-- Settles O20: the results in the spec's words; the carry is the bit moved out. -/
theorem accumulatorOps : Obligations.AccumulatorOps := by
  intro s
  dsimp only
  rw [← rotResult_rlc s.cpu.a (flagC s), ← rotResult_rrc s.cpu.a (flagC s), ← rotResult_rl, ← rotResult_rr]
  refine ⟨?cpl, ?rlca, ?rrca, ?rla, ?rra⟩
  case cpl => exact executes_execForm (f := .cpl) ⟨_, rfl, rfl⟩ s
  case rlca => exact executes_execForm (f := .rlca) ⟨_, rfl, rfl⟩ s
  case rrca => exact executes_execForm (f := .rrca) ⟨_, rfl, rfl⟩ s
  case rla => exact executes_execForm (f := .rla) ⟨_, rfl, rfl⟩ s
  case rra => exact executes_execForm (f := .rra) ⟨_, rfl, rfl⟩ s

end Sys2Proof.Machine
end

section
/-! PROOFS. 16-bit arithmetic (R300 to R304): the flags and the signed displacement as numbers. -/

namespace Sys2Proof.Machine

/-! ### The opcodes -/

theorem decode_incPair (p : Rp) : ∃ i, decode [0x03 + 16 * field p.index] = .ok (i, []) ∧ i.form = .incPair p := by
  cases p <;> exact ⟨_, rfl, rfl⟩

theorem decode_decPair (p : Rp) : ∃ i, decode [0x0B + 16 * field p.index] = .ok (i, []) ∧ i.form = .decPair p := by
  cases p <;> exact ⟨_, rfl, rfl⟩

theorem decode_addHl (p : Rp) : ∃ i, decode [0x09 + 16 * field p.index] = .ok (i, []) ∧ i.form = .addHl p := by
  cases p <;> exact ⟨_, rfl, rfl⟩

/-- Settles O21: the opcode is the operation on its pair. -/
theorem pairIncDec : Obligations.PairIncDec :=
  fun s p => ⟨executes_execForm (decode_incPair p) s, executes_execForm (decode_decPair p) s⟩

/-! ### Carries and displacements as numbers (R12) -/

theorem halfCarryAdd16_eq (a v : Word) : halfCarryAdd16 a v = decide (a.toNat % 4096 + v.toNat % 4096 > 4095) := by
  have hmod (x : Word) : (x &&& 0x0FFF).toNat = x.toNat % 4096 :=
    (BitVec.toNat_and x 0x0FFF).trans (Nat.and_two_pow_sub_one_eq_mod x.toNat 12)
  rw [halfCarryAdd16, hmod, hmod]

theorem halfCarrySp_eq (sp : Word) (e : Byte) : halfCarrySp sp e = decide (sp.toNat % 16 + e.toNat % 16 > 15) := by
  have hmod : (sp &&& 0x0F).toNat = sp.toNat % 16 :=
    (BitVec.toNat_and sp 0x0F).trans (Nat.and_two_pow_sub_one_eq_mod sp.toNat 4)
  rw [halfCarrySp, hmod, lowNibble_eq_mod]

theorem carrySp_eq (sp : Word) (e : Byte) : carrySp sp e = decide (sp.toNat % 256 + e.toNat > 255) := by
  have hmod : (sp &&& 0xFF).toNat = sp.toNat % 256 :=
    (BitVec.toNat_and sp 0xFF).trans (Nat.and_two_pow_sub_one_eq_mod sp.toNat 8)
  rw [carrySp, hmod]

/-- A displacement is added as a signed number, modulo 2^16. -/
theorem add_signExtend16 (v : Word) (e : Byte) : v + signExtend16 e = BitVec.ofInt 16 ((v.toNat : Int) + e.toInt) := by
  rw [BitVec.ofInt_add, BitVec.ofInt_natCast, BitVec.ofNat_toNat, BitVec.setWidth_eq]
  rfl

theorem addHl_eq (p : Rp) (s : State) :
    addHl p s =
      withF (flagByte (flagZ s) false (decide (s.cpu.hl.toNat % 4096 + (getRp p s).toNat % 4096 > 4095))
          (decide (s.cpu.hl.toNat + (getRp p s).toNat > 65535)))
        (setHl (s.cpu.hl + getRp p s) s) := by
  rw [← halfCarryAdd16_eq]
  rfl

/-- The flags of both instructions with a displacement are those of the byte addition. -/
theorem spFlags_eq (e : Byte) (s : State) :
    spFlags e s =
      withF (flagByte false false (decide (s.cpu.sp.toNat % 16 + e.toNat % 16 > 15))
        (decide (s.cpu.sp.toNat % 256 + e.toNat > 255))) s := by
  rw [← halfCarrySp_eq, ← carrySp_eq]
  rfl

/-- Settles O22: the sums and flags of the model as numbers; the flags and the pair are written to different registers. -/
theorem wordAdd : Obligations.WordAdd := by
  intro s p e hl v sum f
  have hflags : spFlags e s = withF f s := spFlags_eq e s
  have hsum : s.cpu.sp + signExtend16 e = sum := add_signExtend16 s.cpu.sp e
  refine ⟨?addHl, ?addSp, ?ldHlSp⟩
  case addHl => exact addHl_eq p s ▸ executes_execForm (decode_addHl p) s
  case addSp =>
    have h : addSp e s = withF f (setSp sum s) := by rw [addSp, hflags, hsum]; rfl
    exact h ▸ executes_execForm (f := .addSp e) ⟨_, rfl, rfl⟩ s
  case ldHlSp =>
    have h : ldHlSp e s = withF f (setHl sum s) := by rw [ldHlSp, hflags, hsum]; rfl
    exact h ▸ executes_execForm (f := .ldHlSp e) ⟨_, rfl, rfl⟩ s

end Sys2Proof.Machine
end

section
/-! PROOFS. Jumps, calls and returns (R320 to R330). -/

namespace Sys2Proof.Machine

/-! ### The opcodes -/

theorem decode_jpCond (cc : Cond) (lo hi : Byte) :
    ∃ i, decode [0xC2 + 8 * field cc.index, lo, hi] = .ok (i, []) ∧ i.form = .jpCond cc (hi ++ lo) := by
  cases cc <;> exact ⟨_, rfl, rfl⟩

theorem decode_jrCond (cc : Cond) (e : Byte) :
    ∃ i, decode [0x20 + 8 * field cc.index, e] = .ok (i, []) ∧ i.form = .jrCond cc e := by
  cases cc <;> exact ⟨_, rfl, rfl⟩

theorem decode_callCond (cc : Cond) (lo hi : Byte) :
    ∃ i, decode [0xC4 + 8 * field cc.index, lo, hi] = .ok (i, []) ∧ i.form = .callCond cc (hi ++ lo) := by
  cases cc <;> exact ⟨_, rfl, rfl⟩

theorem decode_retCond (cc : Cond) :
    ∃ i, decode [0xC0 + 8 * field cc.index] = .ok (i, []) ∧ i.form = .retCond cc := by
  cases cc <;> exact ⟨_, rfl, rfl⟩

theorem decode_rst (y : BitVec 3) : ∃ i, decode [0xC7 + 8 * field y] = .ok (i, []) ∧ i.form = .rst y :=
  match y with
  | 0 | 1 | 2 | 3 | 4 | 5 | 6 | 7 => ⟨_, rfl, rfl⟩

/-! ### Jumps -/

theorem jr_eq (e : Byte) (s : State) : jr e s = setPc (BitVec.ofInt 16 ((s.cpu.pc.toNat : Int) + e.toInt)) s := by
  rw [jr, add_signExtend16]

/-- Settles O23: each opcode is its jump, whose target and condition the operand bytes and the opcode give. -/
theorem jumps : Obligations.Jumps := by
  intro s cc lo hi e
  dsimp only
  rw [← jr_eq]
  refine ⟨?jp, ?jpCond, ?jpHl, ?jr, ?jrCond⟩
  case jp => exact executes_execForm (f := .jp (hi ++ lo)) ⟨_, rfl, rfl⟩ s
  case jpCond => exact executes_execForm (decode_jpCond cc lo hi) s
  case jpHl => exact executes_execForm (f := .jpHl) ⟨_, rfl, rfl⟩ s
  case jr => exact executes_execForm (f := .jr e) ⟨_, rfl, rfl⟩ s
  case jrCond => exact executes_execForm (decode_jrCond cc e) s

/-! ### Calls -/

/-- A call with its push written out (R211, R325). -/
theorem callTo_eq_memWrite (target : Word) (s : State) :
    callTo target s =
      setPc target (setSp (s.cpu.sp - 2)
        (memWrite (s.cpu.sp - 2) (loByte s.cpu.pc) (memWrite (s.cpu.sp - 1) (hiByte s.cpu.pc) s))) := by
  rw [callTo_eq, push16_eq]

/-- A restart's vector is 8 times its field (R155). -/
theorem rstVector_eq (y : BitVec 3) : rstVector y = 8 * y.setWidth 16 := by
  revert y; decide

/-- Settles O24: each opcode is its call, taken or not. -/
theorem calls : Obligations.Calls := by
  intro s cc y lo hi enter
  have henter (target : Word) : callTo target s = enter target := callTo_eq_memWrite target s
  refine ⟨?call, ?callCond, ?rst⟩
  case call => exact henter _ ▸ executes_execForm (f := .call (hi ++ lo)) ⟨_, rfl, rfl⟩ s
  case callCond => exact henter _ ▸ executes_execForm (decode_callCond cc lo hi) s
  case rst => exact rstVector_eq y ▸ henter _ ▸ executes_execForm (decode_rst y) s

/-! ### Returns -/

theorem returnPop_eq_afterRead (s : State) :
    returnPop s =
      setPc (readByte s (s.cpu.sp + 1) ++ readByte s s.cpu.sp)
        (setSp (s.cpu.sp + 2) (afterRead (afterRead s s.cpu.sp) (s.cpu.sp + 1))) := by
  rw [returnPop, pop16_eq_afterRead]

/-- Settles O25: each opcode is its return; RETI's is followed by the enable under `IRQ_IMPL = FULL`. -/
theorem returns : Obligations.Returns := by
  intro s cc back
  have hback : returnPop s = back := returnPop_eq_afterRead s
  refine ⟨?ret, ?retCond, ?reti⟩
  case ret => exact hback ▸ executes_execForm (f := .ret) ⟨_, rfl, rfl⟩ s
  case retCond => exact hback ▸ executes_execForm (decode_retCond cc) s
  case reti =>
    have h : reti s = if s.config.irqImpl = .full then setIme true false back else back := by
      rw [reti, returnFromInterrupt, hback]
      rfl
    exact h ▸ executes_execForm (f := .reti) ⟨_, rfl, rfl⟩ s

end Sys2Proof.Machine
end

section
/-! PROOFS. NOP, HALT, STOP, DI, EI and the illegal opcodes (R361 to R366), and the CB page under both settings of `CB_IMPL` (R367,
R368, R400 to R411). -/

namespace Sys2Proof.Machine

/-! ### System instructions -/

/-- The eleven cells of the main page that are no instruction (R159). -/
theorem decode_illegal :
    ∀ op ∈ [0xD3, 0xDB, 0xDD, 0xE3, 0xE4, 0xEB, 0xEC, 0xED, 0xF4, 0xFC, (0xFD : Byte)],
      ∃ i, decode [op] = .ok (i, []) ∧ i.form = .illegal op := by
  intro op hop
  simp only [List.mem_cons, List.not_mem_nil, or_false] at hop
  obtain rfl | rfl | rfl | rfl | rfl | rfl | rfl | rfl | rfl | rfl | rfl := hop <;> exact ⟨_, rfl, rfl⟩

/-- Settles O26: each opcode is its operation. -/
theorem systemInstructions : Obligations.SystemInstructions := by
  refine fun s skipped => ⟨?nop, ?halt, ?stop, ?di, ?ei, fun op hop => ?illegal⟩
  case nop => exact executes_execForm (f := .nop) ⟨_, rfl, rfl⟩ s
  case halt => exact executes_execForm (f := .halt) ⟨_, rfl, rfl⟩ s
  case stop => exact executes_execForm (f := .stop) ⟨_, rfl, rfl⟩ s
  case di => exact executes_execForm (f := .di) ⟨_, rfl, rfl⟩ s
  case ei => exact executes_execForm (f := .ei) ⟨_, rfl, rfl⟩ s
  case illegal => exact executes_execForm (decode_illegal op hop) s

/-! ### The CB page -/

/-- Every second byte is an instruction of the form its fields give. -/
theorem decode_cbForm (cbop : Byte) : ∃ i, decode [0xCB, cbop] = .ok (i, []) ∧ i.form = cbForm cbop := by
  obtain ⟨i, hcell, -⟩ := exists_cbCell cbop
  exact ⟨i, decode_cb hcell [], form_of_cbCell hcell⟩

/-- A CB opcode runs the operation its fields select, behind the gate of `CB_IMPL` (R367). -/
theorem executes_cbGate (cbop : Byte) (s : State) : Executes [0xCB, cbop] s (cbGate cbop (cbOperation cbop) s) :=
  execForm_cbForm cbop s ▸ executes_execForm (decode_cbForm cbop) s

/-- Settles O27: the gate is closed. -/
theorem cbUnimplemented : Obligations.CbUnimplemented := by
  intro s cbop hcb
  have h := executes_cbGate cbop s
  rwa [cbGate, if_neg (by rw [hcb]; decide)] at h

/-- Under `CB_IMPL = FULL` the gate lets the instruction through. -/
theorem executes_cb {cbop k : Byte} {f : Form} {op : State → State} {s : State} (hform : cbForm cbop = f)
    (hop : execForm f s = cbGate k op s) (hfull : s.config.cbImpl = .full) : Executes [0xCB, cbop] s (op s) := by
  have h := executes_execForm (decode_cbForm cbop) s
  rwa [hform, hop, cbGate, if_pos hfull] at h

theorem cbForm_rot (op : RotOp) (r : R8) : cbForm (8 * field op.index + field r.index) = .rot op r := by
  cases op <;> cases r <;> rfl

theorem cbForm_bit (b : BitVec 3) (r : R8) : cbForm (0x40 + 8 * field b + field r.index) = .bit b r := by
  revert b; cases r <;> decide

theorem cbForm_res (b : BitVec 3) (r : R8) : cbForm (0x80 + 8 * field b + field r.index) = .res b r := by
  revert b; cases r <;> decide

theorem cbForm_set (b : BitVec 3) (r : R8) : cbForm (0xC0 + 8 * field b + field r.index) = .set b r := by
  revert b; cases r <;> decide

/-! ### Rotates, shifts and SWAP (R401 to R408) -/

/-- What a rotate's result and carry are, its runs on every operand are. -/
theorem rotRuns_of_rotResult (op : RotOp) {res : Byte → Bool → Byte} {carry : Byte → Bool}
    (hres : ∀ v c, rotResult op v c = res v c) (hcarry : ∀ v, rotCarry op v = carry v) : RotRuns op.index res carry := by
  intro s r hfull
  rw [← hres, ← hcarry]
  exact executes_cb (op := rotReg op r) (cbForm_rot op r) rfl hfull

/-- Settles O28: the results in the spec's words. -/
theorem cbRotates : Obligations.CbRotates :=
  ⟨rotRuns_of_rotResult .rlc rotResult_rlc fun _ => rfl, rotRuns_of_rotResult .rrc rotResult_rrc fun _ => rfl,
    rotRuns_of_rotResult .rl rotResult_rl fun _ => rfl, rotRuns_of_rotResult .rr rotResult_rr fun _ => rfl,
    rotRuns_of_rotResult .sla rotResult_sla fun _ => rfl, rotRuns_of_rotResult .sra rotResult_sra fun _ => rfl,
    rotRuns_of_rotResult .swap rotResult_swap fun _ => rfl, rotRuns_of_rotResult .srl (fun _ _ => rfl) fun _ => rfl⟩

/-! ### BIT, RES and SET (R409 to R411) -/

theorem afterReadR8_cpu (r : R8) (s : State) : (afterReadR8 r s).cpu = s.cpu := by
  cases r <;> rfl

/-- BIT keeps C. -/
theorem bitReg_eq (b : BitVec 3) (r : R8) (s : State) :
    bitReg b r s = withF (flagByte (!(r8Value r s).getLsbD b.toNat) false true (flagC s)) (afterReadR8 r s) := by
  rw [show flagC s = flagC (afterReadR8 r s) by rw [flagC, flagC, afterReadR8_cpu]]
  rfl

/-- Settles O29: the operation the fields select, under `CB_IMPL = FULL`. -/
theorem cbBits : Obligations.CbBits := by
  refine fun s b r hfull => ⟨?bit, ?res, ?set⟩
  case bit => exact bitReg_eq b r s ▸ executes_cb (op := bitReg b r) (cbForm_bit b r) rfl hfull
  case res => exact executes_cb (op := resReg b r) (cbForm_res b r) rfl hfull
  case set => exact executes_cb (op := setReg b r) (cbForm_set b r) rfl hfull

end Sys2Proof.Machine
end

section
/-! PROOFS. The control frame (R35, R39, R65): which instructions leave PC and the interrupt control state alone. -/

namespace Sys2Proof.Machine

/-- The interrupt control state of R39: IME, `ime_scheduled` and `halted`. -/
def Cpu.interrupts (r : Cpu) : Bool × Bool × Bool := (r.ime, r.imeScheduled, r.halted)

/-- PC and the interrupt control state. -/
def Cpu.control (r : Cpu) : Word × Bool × Bool × Bool := (r.pc, r.interrupts)

/-! ### The updates -/

theorem afterReadR8_control (r : R8) (s : State) : (afterReadR8 r s).cpu.control = s.cpu.control := by
  rw [afterReadR8_cpu]

theorem writeR8_control (r : R8) (v : Byte) (s : State) : (writeR8 r v s).cpu.control = s.cpu.control := by
  cases r with
  | hlm => rw [writeR8, memWrite_cpu]
  | _ => rfl

/-- An operand that is read, then written. -/
theorem writeR8_afterReadR8_control (dst src : R8) (v : Byte) (s : State) :
    (writeR8 dst v (afterReadR8 src s)).cpu.control = s.cpu.control :=
  (writeR8_control dst v _).trans (afterReadR8_control src s)

theorem setRp_control (p : Rp) (v : Word) (s : State) : (setRp p v s).cpu.control = s.cpu.control := by
  cases p <;> rfl

theorem setRp2_control (p : Rp2) (v : Word) (s : State) : (setRp2 p v s).cpu.control = s.cpu.control := by
  cases p <;> rfl

theorem indUpdate_control (m : IndMode) (s : State) : (indUpdate m s).cpu.control = s.cpu.control := by
  cases m <;> rfl

theorem aluOp_control (op : AluOp) (v : Byte) (s : State) : (aluOp op v s).cpu.control = s.cpu.control := by
  cases op <;> rfl

theorem memWrite_memWrite_control (a b : Word) (v w : Byte) (s : State) :
    (memWrite b w (memWrite a v s)).cpu.control = s.cpu.control := by
  rw [memWrite_cpu, memWrite_cpu]

theorem push16_control (v : Word) (s : State) : (push16 v s).cpu.control = s.cpu.control := by
  rw [push16_eq]
  exact memWrite_memWrite_control _ _ _ _ s

theorem cbGate_control {op : State → State} {s : State} (h : (op s).cpu.control = s.cpu.control) (cbop : Byte) :
    (cbGate cbop op s).cpu.control = s.cpu.control := by
  unfold cbGate
  split
  · exact h
  · rfl

theorem cbOperation_control (cbop : Byte) (s : State) : (cbOperation cbop s).cpu.control = s.cpu.control := by
  obtain ⟨op, r, h⟩ | ⟨b, r, h⟩ | ⟨b, r, h⟩ | ⟨b, r, h⟩ := cbOperation_cases cbop <;> rw [h]
  · exact writeR8_afterReadR8_control r r _ s
  · exact afterReadR8_control r s
  · exact writeR8_afterReadR8_control r r _ s
  · exact writeR8_afterReadR8_control r r _ s

/-- A conditional update leaves alone what the update does. -/
theorem ite_cpu {α : Type} (g : Cpu → α) {p : Prop} [Decidable p] {s t : State} (h : g t.cpu = g s.cpu) :
    g (if p then t else s).cpu = g s.cpu := by
  split
  · exact h
  · rfl

/-! ### The forms -/

/-- A form that neither transfers control nor names the interrupt control state leaves both alone. -/
theorem execForm_control {f : Form} (hpc : writesPc f = false) (hint : writesInterruptState f = false) (s : State) :
    (execForm f s).cpu.control = s.cpu.control := by
  cases f with
  | ld dst src => exact writeR8_afterReadR8_control dst src _ s
  | ldImm dst v => exact writeR8_control dst v s
  | ldPairImm p | incPair p | decPair p => exact setRp_control p _ s
  | storeInd m => exact (indUpdate_control m _).trans (by rw [memWrite_cpu])
  | loadInd m => exact indUpdate_control m _
  | pop p => exact setRp2_control p _ _
  | push p => exact push16_control _ s
  | storeAbs | storeHigh | storeHighC => exact congrArg Cpu.control (memWrite_cpu _ _ s)
  | storeSp a => exact memWrite_memWrite_control _ _ _ _ s
  | aluReg op r => exact (aluOp_control op _ _).trans (afterReadR8_control r s)
  | aluImm op v => exact aluOp_control op v s
  | incReg r | decReg r => exact writeR8_afterReadR8_control r r _ s
  | rot op r => exact cbGate_control (op := rotReg op r) (writeR8_afterReadR8_control r r _ s) _
  | bit b r => exact cbGate_control (op := bitReg b r) (afterReadR8_control r s) _
  | res b r => exact cbGate_control (op := resReg b r) (writeR8_afterReadR8_control r r _ s) _
  | set b r => exact cbGate_control (op := setReg b r) (writeR8_afterReadR8_control r r _ s) _
  | jp | jpCond | jpHl | jr | jrCond | call | callCond | ret | retCond | reti | rst | stop | prefixCb => cases hpc
  | halt | di | ei => cases hint
  | _ => rfl

theorem callTo_interrupts (target : Word) (s : State) : (callTo target s).cpu.interrupts = s.cpu.interrupts :=
  congrArg Prod.snd (push16_control s.cpu.pc s)

theorem prefixCb_interrupts (s : State) : (prefixCb s).cpu.interrupts = s.cpu.interrupts := by
  rw [prefixCb_eq]
  exact congrArg Prod.snd (cbGate_control (cbOperation_control _ (afterFetch 1 s)) _)

/-- A transfer of control, STOP and PREFIX CB leave the interrupt control state alone, but for RETI. -/
theorem execForm_interrupts {f : Form} (hint : writesInterruptState f = false) (s : State) :
    (execForm f s).cpu.interrupts = s.cpu.interrupts := by
  by_cases hpc : writesPc f = false
  · exact congrArg Prod.snd (execForm_control hpc hint s)
  cases f with
  | jp | jpHl | jr | ret | stop => rfl
  | jpCond | jrCond | retCond => exact ite_cpu Cpu.interrupts rfl
  | call | rst => exact callTo_interrupts _ s
  | callCond => exact ite_cpu Cpu.interrupts (callTo_interrupts _ s)
  | prefixCb => exact prefixCb_interrupts s
  | reti => cases hint
  | _ => exact absurd rfl hpc

/-- HALT, DI and EI leave PC alone. -/
theorem execForm_pc {f : Form} (hpc : writesPc f = false) (s : State) : (execForm f s).cpu.pc = s.cpu.pc := by
  by_cases hint : writesInterruptState f = false
  · exact congrArg Prod.fst (execForm_control hpc hint s)
  cases f with
  | halt | di | ei => exact ite_cpu Cpu.pc rfl
  | reti => cases hpc
  | _ => exact absurd rfl hint

/-- Settles O33: the frame of the form; under `IRQ_IMPL = NONE`, that of every form. -/
theorem controlFrame : Obligations.ControlFrame := by
  intro i s t h
  obtain rfl := execForm_of_exec h
  refine ⟨fun hpc => execForm_pc hpc s, fun hint => ?interrupts⟩
  case interrupts =>
    obtain hint | hnone := hint
    · simpa [Cpu.interrupts] using execForm_interrupts hint s
    · exact (execForm_frame i.form s).interrupts hnone

end Sys2Proof.Machine
end

section
/-! PROOFS. The accesses of the memory unit that are left: the image (R82 to R84), video memory and the I/O slots (R85, R90, R92),
the writes that change nothing (R96, R98, R102), external RAM and the plain slots (R98, R103, R113), and the OAM DMA (R112). -/

namespace Sys2Proof.Machine

/-! ### The image (R82 to R84) -/

/-- The two selectors side by side, as a number (R83). -/
theorem toNat_romBank (high : BitVec 2) (low : BitVec 5) : (high ++ low).toNat = high.toNat * 32 + low.toNat := by
  rw [BitVec.toNat_append, Nat.shiftLeft_eq, Nat.mul_comm, ← Nat.two_pow_add_eq_or_of_lt low.isLt, Nat.mul_comm]

theorem effRomBank_eq (s : State) :
    effRomBank s =
      if (s.mmu.romBankHigh.toNat * 32 + s.mmu.romBankLow.toNat) % s.cart.numRomBanks = 0 ∧ s.cart.numRomBanks > 1 then 1
      else (s.mmu.romBankHigh.toNat * 32 + s.mmu.romBankLow.toNat) % s.cart.numRomBanks := by
  rw [effRomBank, toNat_romBank]

/-- A read of the image: its byte, or past its end 0xFF and one record. -/
theorem memRead_of_locate_rom {s : State} {x : Word} {i : Nat} (h : locate s x = .rom i) :
    memRead s x =
      if i < s.cart.romSize then (s.cart.rom.byteAt i, s) else (openBus, emit [⟨.readPastRom, x, openBus⟩] s) := by
  simp only [memRead, readByte, afterRead, readDiag, h, readPlace]
  split
  · rw [emit_nil]
  · rfl

/-- Settles O36: the address leads to a place of the image, in bank 0 or in the effective bank. -/
theorem readRom : Obligations.ReadRom := by
  intro s x hx combined bank i
  have hloc : locate s x = .rom i := by
    by_cases hfixed : x.toNat < 0x4000
    · rw [locate_romFixed s hfixed, show i = x.toNat from if_pos hfixed]
    · rw [locate_romBanked s (Nat.le_of_not_lt hfixed) hx, effRomBank_eq]
      exact congrArg Place.rom (if_neg hfixed).symm
  exact memRead_of_locate_rom hloc

/-! ### Video memory and the slots (R85, R90, R92) -/

theorem memRead_io (s : State) {x : Word} (h : inRange 0xFF00 0xFF7F x) : memRead s x = (ioRead s (x.toNat - 0xFF00), s) := by
  rw [memRead_of_locate (locate_io s h.1 (Nat.lt_succ_of_le h.2)) nofun, readPlace]

/-- VBK reads back its selector, the unused bits set (R92). -/
theorem ioRead_vbk (s : State) : ioRead s slotVbk = if s.mmu.vramBank = 0 then 0xFE else 0xFF := by
  have hbits : ∀ b : BitVec 1, (0xFE ||| b.setWidth 8 : Byte) = if b = 0 then 0xFE else 0xFF := by decide
  exact hbits s.mmu.vramBank

/-- So does SVBK. -/
theorem ioRead_svbk (s : State) : ioRead s slotSvbk = BitVec.ofNat 8 (0xF8 + s.mmu.wramBank.toNat) := by
  have hbits : ∀ b : BitVec 3, (0xF8 ||| b.setWidth 8 : Byte) = BitVec.ofNat 8 (0xF8 + b.toNat) := by decide
  exact hbits s.mmu.wramBank

/-- An address of the I/O range other than slot `k`'s leads to another slot. -/
theorem slot_ne {x : Word} (h : inRange 0xFF00 0xFF7F x) {k : Nat} (hk : k < ioSize)
    (hne : x ≠ BitVec.ofNat 16 (0xFF00 + k)) : x.toNat - 0xFF00 ≠ k := by
  have hsize : ioSize = 128 := rfl
  obtain ⟨hlo, hhi⟩ := h
  bv_omega

/-- Settles O38: each range leads to one place; three slots have an overlay. -/
theorem readVideoAndIo : Obligations.ReadVideoAndIo := by
  intro s x
  refine ⟨fun h => ?vram, fun h => ?oam, fun h => ?p1, fun h => ?vbk, fun h => ?svbk, fun h hp hv hw => ?raw⟩
  case vram => exact memRead_of_locate (locate_vram s h.1 (Nat.lt_succ_of_le h.2)) nofun
  case oam => exact memRead_of_locate (locate_oam s h.1 (Nat.lt_succ_of_le h.2)) nofun
  case p1 =>
    have hloc : locate s 0xFF00 = .io slotP1 := locate_io s (by decide) (by decide)
    subst h
    exact memRead_of_locate hloc nofun
  case vbk => subst h; exact ioRead_vbk s ▸ memRead_io s (x := 0xFF4F) ⟨by decide, by decide⟩
  case svbk => subst h; exact ioRead_svbk s ▸ memRead_io s (x := 0xFF70) ⟨by decide, by decide⟩
  case raw =>
    rw [memRead_io s h, ioRead_eq_slot (slot_ne h (by decide) hp) (slot_ne h (by decide) hv) (slot_ne h (by decide) hw)]

/-! ### Writes that change nothing (R96, R98, R102) -/

theorem hasMbc1_eq_false {s : State} (h1 : s.cart.cartType ≠ 0x01) (h2 : s.cart.cartType ≠ 0x02)
    (h3 : s.cart.cartType ≠ 0x03) : ¬ hasMbc1 s = true := by
  rw [hasMbc1_eq_true_iff]
  exact fun h => h.elim h1 (·.elim h2 h3)

/-- Settles O40: the three places that store nothing. -/
theorem writeDiscarded : Obligations.WriteDiscarded := by
  intro s x v
  refine ⟨fun h h1 h2 h3 => ?cart, fun h hoff => ?eram, fun h => ?unusable⟩
  case cart => exact (memWrite_rom s h v).trans (if_neg (hasMbc1_eq_false h1 h2 h3))
  case eram =>
    have hloc := locate_eram s h.1 (Nat.lt_succ_of_le h.2)
    rw [if_neg fun g => (eramAnswers_iff s).1 g hoff] at hloc
    exact memWrite_of_locate hloc v
  case unusable => exact memWrite_of_locate (locate_unusable s h.1 (Nat.lt_succ_of_le h.2)) v

/-! ### External RAM and the plain slots (R98, R103, R113) -/

theorem memWrite_io (s : State) {x : Word} (h : inRange 0xFF00 0xFF7F x) (v : Byte) :
    memWrite x v s = ioWrite (x.toNat - 0xFF00) v s :=
  memWrite_of_locate (locate_io s h.1 (Nat.lt_succ_of_le h.2)) v

/-- A slot with no rule of its own stores the byte (R103). -/
theorem ioWrite_plain {k : Nat} (hdiv : k ≠ slotDiv) (hdma : k ≠ slotDma) (hvbk : k ≠ slotVbk) (hsvbk : k ≠ slotSvbk)
    (v : Byte) (s : State) : ioWrite k v s = setSlot k v s := by
  rw [ioWrite, if_neg hdiv, if_neg hdma, if_neg hvbk, if_neg hsvbk]

theorem effRamBank_of_ne_zero {s : State} (h : s.cart.numRamBanks ≠ 0) :
    effRamBank s = if s.mmu.bankingMode = 0 then 0 else s.mmu.romBankHigh.toNat % s.cart.numRamBanks := by
  simp only [effRamBank, h, or_false]

/-- Settles O43: the store of external RAM that answers, and the branches of `ioWrite`. -/
theorem writeEramAndIo : Obligations.WriteEramAndIo := by
  intro s x v ramBank
  refine ⟨fun h hbanks hon => ?eram, fun h => ?div, fun h hdiv hdma hvbk hsvbk => ?plain⟩
  case eram =>
    have hloc := locate_eram s h.1 (Nat.lt_succ_of_le h.2)
    rw [if_pos ((eramAnswers_iff s).2 (by simp [hbanks, hon])), effRamBank_of_ne_zero hbanks] at hloc
    exact memWrite_of_locate hloc v
  case div =>
    have hloc : locate s 0xFF04 = .io slotDiv := locate_io s (by decide) (by decide)
    subst h
    exact memWrite_of_locate hloc v
  case plain =>
    rw [memWrite_io s h, ioWrite_plain (slot_ne h (by decide) hdiv) (slot_ne h (by decide) hdma) (slot_ne h (by decide) hvbk)
      (slot_ne h (by decide) hsvbk)]
    rfl

end Sys2Proof.Machine
end

section
/-! PROOFS. The OAM DMA (R112): the copy byte by byte, which never reads a byte of OAM that it has already written. -/

namespace Sys2Proof.Machine

/-! ### One byte of the copy -/

theorem locate_dmaByte (v : Byte) (i : Nat) (s : State) (x : Word) : locate (dmaByte v i s) x = locate s x :=
  locate_congr rfl rfl rfl rfl rfl rfl rfl x

/-- A byte of the copy is seen only through its own place in OAM. -/
theorem readByte_dmaByte_other {v : Byte} {i : Nat} {s : State} {x : Word} (h : locate s x ≠ .oam i) :
    readByte (dmaByte v i s) x = readByte s x := by
  rw [readByte, readByte, locate_dmaByte]
  generalize locate s x = p at h
  cases p with
  | oam j => exact Memory.byteAt_store_other _ _ fun e => h (by rw [e])
  | _ => rfl

theorem readDiag_dmaByte (v : Byte) (i : Nat) (s : State) (x : Word) : readDiag (dmaByte v i s) x = readDiag s x := by
  rw [readDiag, readDiag, locate_dmaByte]
  rfl

theorem toNat_dmaSource (v : Byte) {j : Nat} (hj : j < 256) : (dmaSource v j).toNat = v.toNat * 256 + j := by
  have hv := v.isLt
  rw [dmaSource, BitVec.toNat_ofNat]
  omega

/-- The source of byte `j` lies in OAM only as byte `j` itself, where the source is OAM (`v = 0xFE`). -/
theorem locate_dmaSource_ne_oam (v : Byte) {i j : Nat} (hij : i ≠ j) (hi : i < oamSize) (hj : j < oamSize) (s : State) :
    locate s (dmaSource v j) ≠ .oam i := by
  have hsize : oamSize = 160 := rfl
  intro h
  have haddr := toNat_of_locate_oam h
  rw [toNat_dmaSource v (by omega)] at haddr
  omega

/-! ### The copy -/

theorem dmaCopy_eq (v : Byte) (n i : Nat) (s : State) :
    dmaCopy v n i s =
      { s with mmu := { s.mmu with oam := (dmaCopy v n i s).mmu.oam }, diag := (dmaCopy v n i s).diag } := by
  induction n generalizing i s with
  | zero => rfl
  | succ n ih => exact ih (i + 1) (dmaByte v i s)

/-- Each byte of the copied range is its source's, as it read before the copy. -/
theorem byteAt_dmaCopy {v : Byte} {n i : Nat} {s : State} (hoam : s.mmu.oam.wf oamSize) (hn : i + n ≤ oamSize) (j : Nat) :
    (dmaCopy v n i s).mmu.oam.byteAt j =
      if i ≤ j ∧ j < i + n then readByte s (dmaSource v j) else s.mmu.oam.byteAt j := by
  induction n generalizing i s with
  | zero => exact (if_neg (by omega)).symm
  | succ n ih =>
    rw [dmaCopy, ih (Memory.wf_store hoam (by omega) _) (by omega)]
    by_cases hlater : i + 1 ≤ j ∧ j < i + 1 + n
    · rw [if_pos hlater, if_pos (by omega),
        readByte_dmaByte_other (locate_dmaSource_ne_oam v (by omega) (by omega) (by omega) s)]
    rw [if_neg hlater]
    by_cases hij : i = j
    · subst hij
      rw [if_pos (by omega)]
      exact Memory.byteAt_store_same hoam.1 i _
    · rw [if_neg (by omega)]
      exact Memory.byteAt_store_other _ _ hij

/-- The copy's diagnostics are those of its reads, in order. -/
theorem dmaCopy_diag (v : Byte) (n i : Nat) (s : State) :
    (dmaCopy v n i s).diag = s.diag ++ (List.range n).flatMap fun k => readDiag s (dmaSource v (i + k)) := by
  induction n generalizing i s with
  | zero => simp [dmaCopy]
  | succ n ih =>
    have hstep (k : Nat) : i + 1 + k = i + (k + 1) := by omega
    rw [dmaCopy, ih, List.range_succ_eq_map]
    simp only [readDiag_dmaByte, hstep, List.flatMap_cons, List.flatMap_map, Nat.add_zero, ← List.append_assoc]
    rfl

/-! ### The write -/

theorem locate_dma (s : State) : locate s 0xFF46 = .io slotDma := locate_io s (by decide) (by decide)

theorem memWrite_dma (s : State) (v : Byte) : memWrite 0xFF46 v s = setSlot slotDma v (dmaCopy v oamSize 0 s) :=
  memWrite_of_locate (locate_dma s) v

/-- OAM, the slot and the diagnostics are all that the copy and the store of its slot change. -/
theorem setSlot_dmaCopy_eq (v : Byte) (n i : Nat) (s : State) :
    setSlot slotDma v (dmaCopy v n i s) =
      { s with
        mmu := { s.mmu with oam := (setSlot slotDma v (dmaCopy v n i s)).mmu.oam, io := s.mmu.io.store slotDma v }
        diag := (setSlot slotDma v (dmaCopy v n i s)).diag } :=
  congrArg (setSlot slotDma v) (dmaCopy_eq v n i s)

/-- The write reaches OAM and its own slot. -/
theorem not_storeReaches_dma {s : State} {x : Word} (hoam : ¬ inRange 0xFE00 0xFE9F x) (hslot : x ≠ 0xFF46) :
    ¬ storeReaches s 0xFF46 x := by
  unfold storeReaches
  rw [locate_dma]
  rintro (h | ⟨-, h⟩ | ⟨h, -⟩ | ⟨h, -⟩)
  · exact hslot h
  · exact hoam h
  · exact absurd h (by decide)
  · exact absurd h (by decide)

/-- A byte of OAM after the write. -/
theorem readByte_memWrite_dma {s : State} (hs : Inv s) (v : Byte) {i : Nat} (hi : i < 160) :
    readByte (memWrite 0xFF46 v s) (0xFE00 + BitVec.ofNat 16 i) = readByte s (dmaSource v i) := by
  have hsize : oamSize = 160 := rfl
  have haddr : (0xFE00 + BitVec.ofNat 16 i : Word).toNat = 0xFE00 + i := by
    rw [BitVec.toNat_add, BitVec.toNat_ofNat]
    show (0xFE00 + _) % 65536 = _
    omega
  rw [readByte, locate_oam _ (by omega) (by omega), haddr, Nat.add_sub_cancel_left, memWrite_dma, readPlace,
    setSlot_mmu_oam, byteAt_dmaCopy hs.oamWf (by omega), if_pos (by omega)]

/-- Settles O44: the copy, then the store of the slot. -/
theorem oamDma : Obligations.OamDma := by
  intro s v hs
  refine ⟨fun i hi => readByte_memWrite_dma hs v hi, ?slot, fun x hoam hslot => ?frame, ?state, ?diag⟩
  case slot => exact readByte_memWrite_same hs (by rw [locate_dma]; exact ⟨by decide, by decide, by decide, by decide⟩) v
  case frame => exact readByte_memWrite_other v (not_storeReaches_dma hoam hslot)
  case state =>
    rw [memWrite_dma]
    exact setSlot_dmaCopy_eq v oamSize 0 s
  case diag =>
    rw [memWrite_dma, setSlot_diag, dmaCopy_diag]
    simp only [Nat.zero_add]
    rfl

end Sys2Proof.Machine
end

section
/-! PROOFS. The timer step (R470 to R472): the loops of DIV and TIMA in closed form. -/

namespace Sys2Proof.Machine

/-- The state with other accumulators. -/
def withTimer (t : Timer) (s : State) : State := { s with timer := t }

@[simp] theorem slot_withTimer (t : Timer) (s : State) (k : Nat) : slot (withTimer t s) k = slot s k := rfl

theorem withTimer_ioWf {t : Timer} {s : State} (hio : s.mmu.io.wf ioSize) : (withTimer t s).mmu.io.wf ioSize := hio

/-! ### DIV (R471) -/

theorem incrementDiv_eq (s : State) :
    incrementDiv s =
      setSlot slotDiv (slot s slotDiv + 1) (withTimer { s.timer with divAcc := s.timer.divAcc - divPeriod } s) := rfl

theorem slot_incrementDiv_other (s : State) {k : Nat} (hk : k ≠ slotDiv) : slot (incrementDiv s) k = slot s k := by
  rw [incrementDiv_eq, slot_setSlot_other _ _ hk.symm, slot_withTimer]

theorem slot_incrementDiv_div {s : State} (hio : s.mmu.io.wf ioSize) : slot (incrementDiv s) slotDiv = slot s slotDiv + 1 := by
  rw [incrementDiv_eq, slot_setSlot_same (withTimer_ioWf hio)]

theorem slot_advanceDiv_other (n : Nat) (s : State) {k : Nat} (hk : k ≠ slotDiv) : slot (advanceDiv n s) k = slot s k := by
  induction n generalizing s with
  | zero => rfl
  | succ n ih => rw [advanceDiv, ih, slot_incrementDiv_other s hk]

theorem slot_advanceDiv_div (n : Nat) {s : State} (hio : s.mmu.io.wf ioSize) :
    slot (advanceDiv n s) slotDiv = slot s slotDiv + BitVec.ofNat 8 n := by
  induction n generalizing s with
  | zero => exact (BitVec.add_zero _).symm
  | succ n ih =>
    rw [advanceDiv, ih ((incrementDiv_only s).ioWf hio), slot_incrementDiv_div hio, BitVec.add_assoc, Nat.add_comm n 1,
      BitVec.ofNat_add]
    rfl

theorem divStep_eq (c : Nat) (s : State) :
    divStep c s = advanceDiv ((s.timer.divAcc + c) / divPeriod)
      (withTimer { s.timer with divAcc := s.timer.divAcc + c } s) := rfl

theorem divStep_timer (c : Nat) (s : State) :
    (divStep c s).timer = { s.timer with divAcc := (s.timer.divAcc + c) % divPeriod } := by
  rw [divStep, advanceDiv_timer, Nat.mod_eq_sub_div_mul]

theorem slot_divStep_other (c : Nat) (s : State) {k : Nat} (hk : k ≠ slotDiv) : slot (divStep c s) k = slot s k := by
  rw [divStep_eq, slot_advanceDiv_other _ _ hk, slot_withTimer]

theorem slot_divStep_div (c : Nat) {s : State} (hio : s.mmu.io.wf ioSize) :
    slot (divStep c s) slotDiv = slot s slotDiv + BitVec.ofNat 8 ((s.timer.divAcc + c) / divPeriod) := by
  rw [divStep_eq, slot_advanceDiv_div _ (withTimer_ioWf hio), slot_withTimer]

theorem divStep_ioWf (c : Nat) {s : State} (hio : s.mmu.io.wf ioSize) : (divStep c s).mmu.io.wf ioSize :=
  (advanceDiv_only _ (withTimer { s.timer with divAcc := s.timer.divAcc + c } s)).ioWf hio

/-! ### One TIMA increment (R472) -/

theorem incrementTima_eq (period : Nat) (s : State) :
    incrementTima period s =
      let begun := withTimer { s.timer with timaAcc := s.timer.timaAcc - period } s
      if slot s slotTima = 0xFF then postInterrupt 2 (setSlot slotTima (slot s slotTma) begun)
      else setSlot slotTima (slot s slotTima + 1) begun := rfl

theorem slot_incrementTima_other (period : Nat) (s : State) {k : Nat} (htima : k ≠ slotTima) (hif : k ≠ slotIf) :
    slot (incrementTima period s) k = slot s k := by
  rw [incrementTima_eq, slot_ite, postInterrupt, slot_setSlot_other _ _ hif.symm, slot_setSlot_other _ _ htima.symm,
    slot_setSlot_other _ _ htima.symm, ite_self, slot_withTimer]

/-- TIMA counts up, 0xFF reloading from TMA. -/
theorem slot_incrementTima_tima (period : Nat) {s : State} (hio : s.mmu.io.wf ioSize) :
    slot (incrementTima period s) slotTima = if slot s slotTima = 0xFF then slot s slotTma else slot s slotTima + 1 := by
  have hother : slotIf ≠ slotTima := by decide
  rw [incrementTima_eq, slot_ite, postInterrupt, slot_setSlot_other _ _ hother,
    slot_setSlot_same (withTimer_ioWf hio), slot_setSlot_same (withTimer_ioWf hio)]

/-- The reload requests the timer interrupt. -/
theorem slot_incrementTima_if (period : Nat) {s : State} (hio : s.mmu.io.wf ioSize) :
    slot (incrementTima period s) slotIf = if slot s slotTima = 0xFF then slot s slotIf ||| 0x04 else slot s slotIf := by
  have hother : slotTima ≠ slotIf := by decide
  have hreload : (setSlot slotTima (slot s slotTma)
      (withTimer { s.timer with timaAcc := s.timer.timaAcc - period } s)).mmu.io.wf ioSize :=
    Memory.wf_store hio (by decide) _
  rw [incrementTima_eq, slot_ite, postInterrupt, slot_setSlot_same hreload, slot_setSlot_other _ _ hother,
    slot_setSlot_other _ _ hother, slot_withTimer]
  rfl

/-! ### The loop of TIMA (R472) -/

theorem slot_advanceTima_other (period n : Nat) (s : State) {k : Nat} (htima : k ≠ slotTima) (hif : k ≠ slotIf) :
    slot (advanceTima period n s) k = slot s k := by
  induction n generalizing s with
  | zero => rfl
  | succ n ih => rw [advanceTima, ih, slot_incrementTima_other period s htima hif]

theorem slot_advanceTima_tima (period n : Nat) {s : State} (hio : s.mmu.io.wf ioSize) :
    slot (advanceTima period n s) slotTima = timaAfter (slot s slotTma) n (slot s slotTima) := by
  induction n generalizing s with
  | zero => rfl
  | succ n ih =>
    rw [advanceTima, ih ((incrementTima_only period s).ioWf hio),
      slot_incrementTima_other period s (k := slotTma) (by decide) (by decide), slot_incrementTima_tima period hio, timaAfter]

/-- TIMA overflows within `n` increments: one of them finds 0xFF. -/
def Overflows (tma : Byte) (n : Nat) (tima : Byte) : Prop := ∃ j, j < n ∧ timaAfter tma j tima = 0xFF

theorem overflows_succ (tma : Byte) (n : Nat) (tima : Byte) :
    Overflows tma (n + 1) tima ↔ tima = 0xFF ∨ Overflows tma n (if tima = 0xFF then tma else tima + 1) := by
  constructor
  · rintro ⟨j, hj, h⟩
    cases j with
    | zero => exact .inl h
    | succ j => exact .inr ⟨j, Nat.lt_of_succ_lt_succ hj, h⟩
  · rintro (h | ⟨j, hj, h⟩)
    · exact ⟨0, Nat.succ_pos n, h⟩
    · exact ⟨j + 1, Nat.succ_lt_succ hj, h⟩

/-- The loop requests the timer interrupt exactly on an overflow: once or more is the same bit. -/
theorem slot_advanceTima_if (period n : Nat) {s : State} (hio : s.mmu.io.wf ioSize) :
    (Overflows (slot s slotTma) n (slot s slotTima) → slot (advanceTima period n s) slotIf = slot s slotIf ||| 0x04) ∧
      (¬ Overflows (slot s slotTma) n (slot s slotTima) → slot (advanceTima period n s) slotIf = slot s slotIf) := by
  induction n generalizing s with
  | zero => exact ⟨fun ⟨j, hj, _⟩ => absurd hj (Nat.not_lt_zero j), fun _ => rfl⟩
  | succ n ih =>
    have htma : slot (incrementTima period s) slotTma = slot s slotTma :=
      slot_incrementTima_other period s (by decide) (by decide)
    obtain ⟨hlater, hno⟩ := ih ((incrementTima_only period s).ioWf hio)
    rw [htma, slot_incrementTima_tima period hio] at hlater hno
    rw [slot_incrementTima_if period hio] at hlater hno
    rw [overflows_succ, advanceTima]
    by_cases hrest : Overflows (slot s slotTma) n (if slot s slotTima = 0xFF then slot s slotTma else slot s slotTima + 1)
    · refine ⟨fun _ => (hlater hrest).trans ?_, fun h => absurd (.inr hrest) h⟩
      split
      · rw [BitVec.or_assoc, BitVec.or_self]
      · rfl
    · refine ⟨fun h => (hno hrest).trans (if_pos (h.resolve_right hrest)), fun h => (hno hrest).trans (if_neg ?_)⟩
      exact fun g => h (.inl g)

/-! ### The TIMA part of the step -/

/-- The period of R54, in the spec's words; 0 while bit 2 of TAC is clear. -/
theorem timaPeriod_eq (tac : Byte) :
    timaPeriod tac =
      if tac.getLsbD 2 then
        (if tac.toNat % 4 = 0 then 1024 else if tac.toNat % 4 = 1 then 16 else if tac.toNat % 4 = 2 then 64 else 256)
      else 0 := by
  revert tac; decide

theorem timaStep_off (c : Nat) {s : State} (h : timaPeriod (slot s slotTac) = 0) : timaStep c s = s := if_pos h

theorem timaStep_on (c : Nat) {s : State} (h : timaPeriod (slot s slotTac) ≠ 0) :
    timaStep c s =
      advanceTima (timaPeriod (slot s slotTac)) ((s.timer.timaAcc + c) / timaPeriod (slot s slotTac))
        (withTimer { s.timer with timaAcc := s.timer.timaAcc + c } s) := if_neg h

theorem slot_timaStep_other (c : Nat) (s : State) {k : Nat} (htima : k ≠ slotTima) (hif : k ≠ slotIf) :
    slot (timaStep c s) k = slot s k := by
  by_cases h : timaPeriod (slot s slotTac) = 0
  · rw [timaStep_off c h]
  · rw [timaStep_on c h, slot_advanceTima_other _ _ _ htima hif, slot_withTimer]

theorem timaStep_on_timaAcc (c : Nat) {s : State} (h : timaPeriod (slot s slotTac) ≠ 0) :
    (timaStep c s).timer.timaAcc = (s.timer.timaAcc + c) % timaPeriod (slot s slotTac) := by
  rw [timaStep_on c h, advanceTima_timer, Nat.mod_eq_sub_div_mul]
  rfl

theorem slot_timaStep_on_tima (c : Nat) {s : State} (hio : s.mmu.io.wf ioSize) (h : timaPeriod (slot s slotTac) ≠ 0) :
    slot (timaStep c s) slotTima =
      timaAfter (slot s slotTma) ((s.timer.timaAcc + c) / timaPeriod (slot s slotTac)) (slot s slotTima) := by
  rw [timaStep_on c h, slot_advanceTima_tima _ _ (withTimer_ioWf hio), slot_withTimer, slot_withTimer]

theorem slot_timaStep_on_if (c : Nat) {s : State} (hio : s.mmu.io.wf ioSize) (h : timaPeriod (slot s slotTac) ≠ 0) :
    let overflows := Overflows (slot s slotTma) ((s.timer.timaAcc + c) / timaPeriod (slot s slotTac)) (slot s slotTima)
    (overflows → slot (timaStep c s) slotIf = slot s slotIf ||| 0x04) ∧
      (¬ overflows → slot (timaStep c s) slotIf = slot s slotIf) := by
  intro overflows
  rw [timaStep_on c h]
  exact slot_advanceTima_if _ _ (withTimer_ioWf (t := { s.timer with timaAcc := s.timer.timaAcc + c }) hio)

theorem timaStep_divAcc (c : Nat) (s : State) : (timaStep c s).timer.divAcc = s.timer.divAcc := by
  by_cases h : timaPeriod (slot s slotTac) = 0
  · rw [timaStep_off c h]
  · rw [timaStep_on c h, advanceTima_timer]
    rfl

/-! ### The timer step (R470) -/

theorem timerStep_eq (c : Nat) (s : State) :
    timerStep c s = { s with timer := (timerStep c s).timer, mmu := { s.mmu with io := (timerStep c s).mmu.io } } := by
  have hdevices := (timerStep_only c s).eq
  rwa [timerStep_ppu] at hdevices

/-- Settles O48: the TIMA part leaves DIV alone. -/
theorem timerDiv : Obligations.TimerDiv := by
  intro s c hs
  refine ⟨?slot, ?acc, fun k hdiv htima hif => ?other, timerStep_eq c s⟩
  case slot => exact (slot_timaStep_other c _ (by decide) (by decide)).trans (slot_divStep_div c hs.ioWf)
  case acc => exact (timaStep_divAcc c _).trans (congrArg Timer.divAcc (divStep_timer c s))
  case other => exact (slot_timaStep_other c _ htima hif).trans (slot_divStep_other c s hdiv)

/-- Settles O49: the DIV part leaves the slots and the accumulator of the TIMA part alone. -/
theorem timerTima : Obligations.TimerTima := by
  intro s c hs t tac period n overflows
  have hslot {k : Nat} (hk : k ≠ slotDiv) : slot (divStep c s) k = slot s k := slot_divStep_other c s hk
  have hacc : (divStep c s).timer.timaAcc = s.timer.timaAcc := by rw [divStep_timer]
  have hperiod : timaPeriod (slot (divStep c s) slotTac) = if tac.getLsbD 2 then period else 0 := by
    rw [hslot (by decide)]
    exact timaPeriod_eq tac
  refine ⟨fun hoff => ?frozen, fun hon => ?running⟩
  case frozen =>
    have ht : t = divStep c s := timaStep_off c (by rw [hperiod, hoff]; rfl)
    rw [ht]
    exact ⟨hslot (by decide), hslot (by decide), hacc⟩
  case running =>
    rw [if_pos hon] at hperiod
    have hpos : period ≠ 0 := by
      dsimp only [period]
      repeat' split
      all_goals decide
    have hio := divStep_ioWf c hs.ioWf
    have hrun : timaPeriod (slot (divStep c s) slotTac) ≠ 0 := hperiod ▸ hpos
    have htima := slot_timaStep_on_tima c hio hrun
    have htimer := timaStep_on_timaAcc c hrun
    have hif := slot_timaStep_on_if c hio hrun
    rw [hperiod, hacc] at htima htimer hif
    rw [hslot (by decide), hslot (by decide)] at htima
    rw [hslot (by decide), hslot (by decide), hslot (by decide)] at hif
    exact ⟨htima, htimer, hif⟩

end Sys2Proof.Machine
end

section
/-! PROOFS. The cartridge load (R120, R121), the state after reset (R67), and a few words of the maps (R158, R160). -/

namespace Sys2Proof.Machine

/-! ### The header tables (R120) -/

/-- The ROM sizes of the header as a list of codes. -/
theorem romSizeTable_eq_lookup (code : Byte) :
    romSizeTable code =
      ([(0x00, 2), (0x01, 4), (0x02, 8), (0x03, 16), (0x04, 32), (0x05, 64), (0x06, 128), (0x07, 256), (0x08, 512),
        (0x52, 72), (0x53, 80), (0x54, 96)] : List (Byte × Nat)).lookup code := by
  revert code; decide

/-- The RAM sizes likewise. -/
theorem ramSizeTable_eq_lookup (code : Byte) :
    ramSizeTable code =
      ([(0x00, 0), (0x01, 0), (0x02, 1), (0x03, 4), (0x04, 16), (0x05, 8)] : List (Byte × Nat)).lookup code := by
  revert code; decide

/-! ### The cartridge of an image -/

theorem byteAt_image (image : List Byte) (a : Nat) : (Memory.ofBytesAt 0 image).byteAt a = image.getD a 0 := by
  rw [Memory.byteAt_ofBytesAt, if_pos (Nat.zero_le a), Nat.sub_zero]
  rfl

theorem cartOf_rom (image : List Byte) : (cartOf image).rom = Memory.ofBytesAt 0 image := by
  unfold cartOf
  split <;> rfl

theorem cartOf_romSize (image : List Byte) : (cartOf image).romSize = image.length := by
  unfold cartOf
  split <;> rfl

/-- An image with room for a header. -/
theorem cartOf_of_header {image : List Byte} (h : image.length ≥ 0x150) :
    (cartOf image).cartType = image.getD 0x147 0 ∧
      (cartOf image).numRomBanks = (romSizeTable (image.getD 0x148 0)).getD (banksOfSize image.length) ∧
      (cartOf image).numRamBanks = (ramSizeTable (image.getD 0x149 0)).getD 0 := by
  rw [cartOf, if_pos h]
  simp only [byteAt_image, and_self]

/-- A shorter one (C2, D29). -/
theorem cartOf_of_short {image : List Byte} (h : image.length < 0x150) :
    (cartOf image).cartType = 0 ∧ (cartOf image).numRomBanks = banksOfSize image.length ∧ (cartOf image).numRamBanks = 0 := by
  rw [cartOf, if_neg (Nat.not_le.2 h)]
  exact ⟨rfl, rfl, rfl⟩

/-! ### The load -/

theorem loadRom_some {image : List Byte} (h : image.length ≠ 0) (s : State) :
    loadRom (some image) s = ({ mmuReset s with cart := cartOf image, stage := s.stage.afterLoad }, true) := by
  cases image with
  | nil => exact absurd rfl h
  | cons v rest => rfl

/-- A load that fails takes the console out of service and changes nothing else (R121). -/
theorem loadRom_bad {bad : Option (List Byte)} (h : bad = none ∨ bad = some []) (s : State) :
    loadRom bad s = ({ s with stage := .noCartridge }, false) := by
  obtain rfl | rfl := h <;> rfl

theorem afterReset_afterLoad (g : BootStage) : g.afterLoad.afterReset = .runnable := by
  cases g <;> rfl

/-- Settles O52: a load that succeeds is `loadRom_some`, one that fails `loadRom_bad`. -/
theorem loadRom_spec : Obligations.LoadRom := by
  intro s image n t bySize romBanks ramBanks
  refine ⟨fun hn => ?good, fun bad hbad => ?bad⟩
  case good =>
    have hload := loadRom_some hn s
    have ht : t = { mmuReset s with cart := cartOf image, stage := s.stage.afterLoad } := congrArg Prod.fst hload
    clear_value t
    subst ht
    refine ⟨congrArg Prod.snd hload, cartOf_romSize image, fun a _ => ?bytes, fun hlong => ?header, cartOf_of_short, rfl, rfl,
      rfl, rfl, rfl, rfl, rfl, ?stage⟩
    case bytes => exact (congrArg (·.byteAt a) (cartOf_rom image)).trans (byteAt_image image a)
    case header =>
      obtain ⟨htype, hrom, hram⟩ := cartOf_of_header hlong
      rw [romSizeTable_eq_lookup] at hrom
      rw [ramSizeTable_eq_lookup] at hram
      exact ⟨htype, hrom, hram⟩
    case stage => exact (congrArg State.stage (consoleReset_eq _)).trans (afterReset_afterLoad s.stage)
  case bad =>
    rw [loadRom_bad hbad s]
    exact ⟨rfl, rfl, step_of_not_runnable (by simp)⟩

/-! ### The state after reset (R67) -/

/-- Settles O58: every component has its reset value, and P1's slot is the one listed. -/
theorem resetInv : Obligations.ResetInv :=
  (inv_iff _).2 ⟨cpuInv_reset _, ⟨Nat.le_refl 1, fun h => absurd rfl h, Memory.wf_nil _⟩,
    { mmuInv_reset Cart.absent with ioWf := by decide }, ppuInv_reset, timerInv_reset⟩

/-! ### Words of the maps (R158, R160) -/

/-- Settles O4: each word is looked up in the maps. -/
theorem decodeWords : Obligations.DecodeWords :=
  ⟨rfl, rfl, rfl, rfl, rfl, rfl, rfl, rfl⟩

end Sys2Proof.Machine
end

section
/-! PROOFS. The CPU step case by case: idling (R362) and the interrupt service (R441 to R443). -/

namespace Sys2Proof.Machine

/-! ### The three steps -/

theorem cpuStep_of_willIdle {s : State} (h : willIdle s) : cpuStep s = .next (s, idleCycles) := by
  obtain ⟨-, -, hcpu⟩ | ⟨-, hidle, -⟩ | ⟨hidle, -, -⟩ := cpuStep_cases s
  · exact hcpu
  · exact absurd h hidle
  · exact absurd h hidle

theorem cpuStep_of_willService {s : State} (h : willService s) :
    cpuStep s = .next (service (pending s) (wake s), serviceCycles) := by
  obtain ⟨-, hserve, -⟩ | ⟨-, -, hcpu⟩ | ⟨-, hserve, -⟩ := cpuStep_cases s
  · exact absurd h hserve
  · exact hcpu
  · exact absurd h hserve

theorem cpuStep_of_runs {s : State} (hidle : ¬ willIdle s) (hserve : ¬ willService s) : cpuStep s = runInstr (beforeFetch s) := by
  obtain ⟨h, -, -⟩ | ⟨h, -, -⟩ | ⟨-, -, hcpu⟩ := cpuStep_cases s
  · exact absurd h hidle
  · exact absurd h hserve
  · exact hcpu

/-- A console step is a CPU step and the tail of the run loop. -/
theorem step_eq_runTail {s t : State} {c : Nat} (hs : s.stage = .runnable) (h : cpuStep s = .next (t, c)) :
    step s = .next (runTail c t) :=
  afterCpuStep_eq c t ▸ step_of_cpuStep hs h

/-- Settles O55: the step is the idle one. -/
theorem haltIdles : Obligations.HaltIdles :=
  fun _ hs h => step_eq_runTail hs (cpuStep_of_willIdle h)

/-! ### The interrupt service -/

/-- The memory after the push of PC (R442). -/
def pushedPc (s : State) : State := memWrite (s.cpu.sp - 2) (loByte s.cpu.pc) (memWrite (s.cpu.sp - 1) (hiByte s.cpu.pc) s)

/-- The registers when interrupt `n` has been taken: PC at the vector, SP two lower, interrupts off, HALT ended. -/
def Cpu.afterService (n : Nat) (r : Cpu) : Cpu :=
  { r with sp := r.sp - 2, pc := vector n, ime := false, imeScheduled := false, halted := false }

/-- The service is the push, the clearing of the IF bit after it, and the change of registers. -/
theorem takeInterrupt_wake (n : Nat) (s : State) :
    takeInterrupt n (wake s) =
      withCpu (s.cpu.afterService n) (setSlot slotIf (slot (pushedPc s) slotIf &&& ~~~(1#8 <<< n)) (pushedPc s)) := by
  have hwake : wake s = withCpu { s.cpu with halted := false } s := rfl
  rw [takeInterrupt_eq, push16_eq, hwake, memWrite_withCpu, memWrite_withCpu]
  rfl

/-- What is pending, bit by bit: enabled, requested, and one of the five (R441). -/
theorem getLsbD_pending (s : State) (m : Nat) :
    (pending s).getLsbD m = true ↔ m < 5 ∧ s.mmu.ie.getLsbD m = true ∧ (slot s slotIf).getLsbD m = true := by
  have hmask : (0x1F : Byte).getLsbD m = decide (m < 5) := by
    by_cases hm : m < 8
    · revert m; decide
    · rw [BitVec.getLsbD_of_ge _ m (Nat.le_of_not_lt hm)]
      exact (decide_eq_false (by omega)).symm
  rw [pending, BitVec.getLsbD_and, BitVec.getLsbD_and, hmask]
  simp [and_comm]

theorem pending_and (s : State) : pending s &&& 0x1F = pending s := by
  rw [pending, BitVec.and_assoc, BitVec.and_self]

/-- Settles O54: the lowest pending bit is taken; the push leaves the slots' canonical form, so the IF slot reads back. -/
theorem interruptService : Obligations.InterruptService := by
  intro s hs hrun hserve pending5 pushed
  obtain ⟨hlt, hset, hlower⟩ := lowestBit_spec (p := pending s) (by rw [pending_and]; exact hserve.2.2)
  have hiff (m : Nat) : (pending s).getLsbD m = true ↔ pending5 m := getLsbD_pending s m
  have hio : pushed.mmu.io.wf ioSize := ((hs.memWrite _ _).memWrite _ _).ioWf
  refine ⟨lowestBit (pending s), (hiff _).1 hset, fun m hm hp => ?lowest, _, step_eq_runTail hrun (cpuStep_of_willService hserve),
    ?state⟩
  case lowest => exact absurd ((hiff m).2 hp) (Bool.eq_false_iff.1 (hlower m hm))
  case state =>
    rw [service, takeInterrupt_wake]
    exact ⟨rfl, slot_setSlot_same hio slotIf _, fun k hk => slot_setSlot_other _ pushed hk.symm, rfl⟩

end Sys2Proof.Machine
end

section
/-! PROOFS. The bytes the step fetches (R360) are those its decoding needs (R150, R161), STOP's second byte left out (R363). -/

namespace Sys2Proof

/-- The operand bytes of a cell that the step fetches: none of STOP's (R363). -/
def Cell.fetched : Cell → Nat
  | .plain _ | .skipOne _ => 0
  | .imm8 _ => 1
  | .imm16 _ => 2

theorem operandBytes_of_mainCell {op : Byte} {c : Cell} (hop : op ≠ prefixByte) (hcell : mainCell op = some c) :
    operandBytes op = c.fetched := by
  cases c <;> simp [operandBytes, hop, hcell, Cell.fetched]

/-- A cell's instruction is decoded from the bytes fetched, with nothing left. -/
theorem decode_fetched {op : Byte} {c : Cell} (hop : op ≠ prefixByte) (hcell : mainCell op = some c) (b1 b2 : Byte) :
    decode (op :: [b1, b2].take c.fetched) = .ok (c.instr b1 b2, []) := by
  cases c <;> simp [decode, hop, hcell, Cell.fetched, Cell.instr]

/-- How many bytes a cell's step fetches, the opcode included: those of the encoding, but for STOP. -/
theorem fetched_of_mainCell {op : Byte} {c : Cell} (hcell : mainCell op = some c) (b1 b2 : Byte) :
    (if c.instr b1 b2 = .stop then 1 else (encode (c.instr b1 b2)).length) = 1 + c.fetched := by
  rw [encode_of_mainCell hcell]
  cases c with
  | skipOne i =>
    obtain ⟨-, rfl⟩ := mainCell_skipOne hcell
    rfl
  | plain i => exact ite_self 1
  | imm8 mk | imm16 mk =>
    have hop : op ≠ 0x10 := by rintro rfl; cases hcell
    exact if_neg (ne_stop_of_encode (encode_of_mainCell hcell b1 b2) hop)

/-- Three bytes that decode: the bytes to fetch decode to the same instruction, and are as many as its encoding has, or STOP's
one. -/
theorem decode_operandBytes {op b1 b2 : Byte} {i : Instr} {rest : List Byte} (hdec : decode [op, b1, b2] = .ok (i, rest)) :
    decode (op :: [b1, b2].take (operandBytes op)) = .ok (i, []) ∧
      (if i = .stop then 1 else (encode i).length) = 1 + operandBytes op := by
  by_cases hop : op = prefixByte
  · subst hop
    obtain ⟨j, hcell, -⟩ := exists_cbCell b1
    cases (decode_cb hcell [b2]).symm.trans hdec
    have hencode := encode_of_cbCell hcell
    rw [if_neg (ne_stop_of_encode hencode (by decide)), hencode]
    exact ⟨decode_cb hcell [], rfl⟩
  · obtain ⟨c, hcell, -⟩ := exists_mainCell 0 0 op hop
    cases (decode_of_mainCell hop hcell b1 b2).symm.trans hdec
    rw [operandBytes_of_mainCell hop hcell]
    exact ⟨decode_fetched hop hcell b1 b2, fetched_of_mainCell hcell b1 b2⟩

theorem operandBytes_le (op : Byte) : operandBytes op ≤ 2 := by
  unfold operandBytes
  split
  · decide
  · split <;> decide

end Sys2Proof

namespace Sys2Proof.Machine

/-! ### The fetch -/

/-- Fetching on from where a fetch ended. -/
theorem afterFetch_afterFetch (m n : Nat) (s : State) : afterFetch n (afterFetch m s) = afterFetch (m + n) s := by
  have hpc (k : Nat) : s.cpu.pc + BitVec.ofNat 16 m + BitVec.ofNat 16 k = s.cpu.pc + BitVec.ofNat 16 (m + k) := by
    rw [BitVec.add_assoc, BitVec.ofNat_add]
  simp only [afterFetch, fetchRecords, emit_cpu, setPc_cpu_pc, readDiag_emit, readDiag_setPc, hpc, setPc_emit, setPc_setPc,
    emit_emit, List.range_add, List.flatMap_append, List.flatMap_map]

/-- Up to two operand bytes, after the opcode. -/
theorem fetchBytes_afterFetch {n : Nat} (hn : n ≤ 2) (s : State) :
    fetchBytes n (afterFetch 1 s) =
      ([readByte s (s.cpu.pc + 1), readByte s (s.cpu.pc + 2)].take n, afterFetch (1 + n) s) := by
  have hread (x : Word) : readByte (afterFetch 1 s) x = readByte s x := by
    rw [afterFetch, readByte_emit, readByte_setPc]
  have hpc0 : (afterFetch 1 s).cpu.pc + BitVec.ofNat 16 0 = s.cpu.pc + 1 := BitVec.add_zero _
  have hpc1 : (afterFetch 1 s).cpu.pc + BitVec.ofNat 16 1 = s.cpu.pc + 2 := BitVec.add_assoc _ _ _
  rw [fetchBytes_eq, afterFetch_afterFetch]
  simp only [hread]
  obtain rfl | rfl | rfl : n = 0 ∨ n = 1 ∨ n = 2 := by omega
  · rfl
  · simp [hpc0]
  · simp [List.range_succ, hpc0, hpc1]

/-- The step fetches and decodes the instruction that the three bytes at PC begin with. -/
theorem fetchInstr_of_decode {s : State} {i : Instr} {rest : List Byte}
    (hdec : decode [readByte s s.cpu.pc, readByte s (s.cpu.pc + 1), readByte s (s.cpu.pc + 2)] = .ok (i, rest)) :
    fetchInstr s = some (i, afterFetch (if i = .stop then 1 else (encode i).length) s) := by
  obtain ⟨hfetched, hlength⟩ := decode_operandBytes hdec
  simp only [fetchInstr, fetch8_eq, fetchBytes_afterFetch (operandBytes_le _), hfetched, hlength]

theorem runInstr_of_fetchInstr {s u : State} {i : Instr} (h : fetchInstr s = some (i, u)) :
    runInstr s = .next (execForm i.form u, cycles i u) := by
  simp only [runInstr, h, exec_eq_execForm]

end Sys2Proof.Machine
end

section
/-! PROOFS. The step runs the decoded instruction (R360, R491), with R540's cycle count. -/

namespace Sys2Proof.Machine

/-! ### The cycle table (R540) -/

/-- The condition of a conditional form (R154). -/
def conditionOf : Form → Option Cond
  | .jpCond cc _ | .jrCond cc _ | .callCond cc _ | .retCond cc => some cc
  | _ => none

theorem taken_eq (f : Form) (s : State) : taken f s = (conditionOf f).elim true (cond · s) := by
  cases f <;> rfl

/-- The condition of an opcode's bits 4..3 (R154, R157). -/
theorem conditionHolds_eq {op : Byte} {cc : Cond} (h : cc.index.toNat = op.toNat / 8 % 4) (s : State) :
    conditionHolds op s = cond cc s := by
  rw [conditionHolds, ← h]
  cases cc <;> rfl

/-- A form has the counts of R540's main page at an opcode: when taken, and when not taken if it has a condition, which is that of
the opcode's bits. -/
abbrev CountsAt (op : Byte) (f : Form) : Prop :=
  f.onCbPage = false ∧ formCycles f true = (mainPageCounts.getD (op.toNat / 16) []).getD (op.toNat % 16) 0 ∧
    notTakenCounts.lookup op = (conditionOf f).map (fun _ => formCycles f false) ∧
    ∀ cc ∈ conditionOf f, cc.index.toNat = op.toNat / 8 % 4

/-- The main page of the decoder against that of R540's table. -/
theorem countsAt_mainCell (b1 b2 : Byte) :
    ∀ op : Byte, op ≠ prefixByte → ∃ c ∈ mainCell op, CountsAt op (c.instr b1 b2).form :=
  of_decide_eq_true rfl

theorem cycles_of_countsAt {op : Byte} {i : Instr} (hop : op ≠ prefixByte) (h : CountsAt op i.form) (second : Byte) (s : State) :
    cycles i s = tableCount op second s := by
  obtain ⟨hpage, htaken, hlookup, hcond⟩ := h
  have hleft : cycles i s = formCycles i.form (taken i.form s) := by simp [cycles, hpage]
  rw [hleft, taken_eq, tableCount, if_neg (show ¬ op = 0xCB from hop), hlookup]
  cases hc : conditionOf i.form with
  | none => exact htaken
  | some cc =>
    dsimp only [Option.map_some, Option.elim_some]
    rw [conditionHolds_eq (hcond cc hc), ← htaken]
    cases cond cc s <;> rfl

/-- The CB page: 2 cycles on a register; on (HL), 3 for BIT and 4 for the others (R540). -/
theorem formCycles_cbForm :
    ∀ cbop : Byte, (cbForm cbop).onCbPage = true ∧ ∀ taken : Bool, formCycles (cbForm cbop) taken =
      if cbop.toNat % 8 ≠ 6 then 2 else if cbop.toNat / 64 = 1 then 3 else 4 := by
  decide

theorem cycles_of_cbCell {cbop : Byte} {i : Instr} (hcell : cbCell cbop = some i) (s : State) :
    cycles i s = tableCount prefixByte cbop s := by
  obtain ⟨hpage, hcount⟩ := formCycles_cbForm cbop
  rw [cycles, form_of_cbCell hcell, hpage, hcount, tableCount, if_pos (show prefixByte = 0xCB from rfl)]
  by_cases hcb : s.config.cbImpl = .unimplemented <;> simp [hcb]

/-- The count of the instruction that bytes decode to is the table's at the first of them. -/
theorem cycles_eq_tableCount {op b1 b2 : Byte} {i : Instr} {rest : List Byte} (hdec : decode [op, b1, b2] = .ok (i, rest))
    (s : State) : cycles i s = tableCount op b1 s := by
  by_cases hop : op = prefixByte
  · subst hop
    obtain ⟨j, hcell, -⟩ := exists_cbCell b1
    cases (decode_cb hcell [b2]).symm.trans hdec
    exact cycles_of_cbCell hcell s
  · obtain ⟨c, hcell, hcounts⟩ := countsAt_mainCell b1 b2 op hop
    cases (decode_of_mainCell hop hcell b1 b2).symm.trans hdec
    exact cycles_of_countsAt hop hcounts b1 s

theorem tableCount_congr {s t : State} (hconfig : t.config = s.config) (hf : t.cpu.f = s.cpu.f) (op second : Byte) :
    tableCount op second t = tableCount op second s := by
  unfold tableCount conditionHolds
  rw [hconfig, hf]

/-! ### The executing step -/

theorem readByte_beforeFetch (s : State) (x : Word) : readByte (beforeFetch s) x = readByte s x := by
  rw [beforeFetch_eq]
  exact readByte_congr rfl rfl rfl x

theorem beforeFetch_pc (s : State) : (beforeFetch s).cpu.pc = s.cpu.pc := by
  rw [beforeFetch_eq]

theorem beforeFetch_f (s : State) : (beforeFetch s).cpu.f = s.cpu.f := by
  rw [beforeFetch_eq]

/-- An executing step is the decoded instruction after its fetch, with the table's count. -/
theorem cpuStep_of_decode {s : State} (hidle : ¬ willIdle s) (hserve : ¬ willService s) {i : Instr} {rest : List Byte}
    (hdec : decode [readByte s s.cpu.pc, readByte s (s.cpu.pc + 1), readByte s (s.cpu.pc + 2)] = .ok (i, rest)) :
    cpuStep s = .next
      (execForm i.form (afterFetch (if i = .stop then 1 else (encode i).length) (beforeFetch s)),
        tableCount (readByte s s.cpu.pc) (readByte s (s.cpu.pc + 1)) s) := by
  have hfetch : fetchInstr (beforeFetch s) = _ :=
    fetchInstr_of_decode (i := i) (rest := rest) (by simpa only [readByte_beforeFetch, beforeFetch_pc] using hdec)
  rw [cpuStep_of_runs hidle hserve, runInstr_of_fetchInstr hfetch, cycles_eq_tableCount hdec,
    tableCount_congr (s := s) (t := afterFetch _ (beforeFetch s)) (beforeFetch_sameConsole s).config (beforeFetch_f s)]

/-- Settles O53: the CPU step is `cpuStep_of_decode`. -/
theorem stepRunsDecodedInstruction : Obligations.StepRunsDecodedInstruction := by
  refine ⟨fun _ _ => rfl, ?_⟩
  intro s i rest pc woken s1 hrun hserve hidle hdec
  exact ⟨_, exec_eq_execForm i s1, step_eq_runTail hrun (cpuStep_of_decode hidle hserve hdec)⟩

end Sys2Proof.Machine
end

section
/-! PROOFS. The EI delay (R365, R536): the step of EI, the step after it, and the interrupt that may follow. -/

namespace Sys2Proof.Machine

/-! ### Which opcode an instruction has -/

/-- A one-byte instruction's opcode is the first byte of what decodes to it. -/
theorem head_of_decode {op b1 b2 : Byte} {i : Instr} {rest : List Byte} (hdec : decode [op, b1, b2] = .ok (i, rest))
    {code : Byte} (hencode : encode i = [code]) (hprefix : i ≠ .prefixCb) : op = code := by
  have h := encodeDecode _ rest i hdec hprefix
  have hstop : i ≠ .stop := by rintro rfl; cases hencode
  rw [if_neg hstop, hencode] at h
  exact (List.cons.inj h).1

theorem op_of_decode_di {op b1 b2 : Byte} {i : Instr} {rest : List Byte} (hdec : decode [op, b1, b2] = .ok (i, rest))
    (hi : i.form = .di) : op = 0xF3 :=
  head_of_decode hdec (show i.form.encode = [0xF3] by rw [hi]; rfl) (by rintro rfl; cases hi)

theorem op_of_decode_ei {op b1 b2 : Byte} {i : Instr} {rest : List Byte} (hdec : decode [op, b1, b2] = .ok (i, rest))
    (hi : i.form = .ei) : op = 0xFB :=
  head_of_decode hdec (show i.form.encode = [0xFB] by rw [hi]; rfl) (by rintro rfl; cases hi)

/-! ### The interrupt control state after an instruction -/

/-- With interrupts on, every instruction but DI leaves them on, and only EI schedules an enable. -/
theorem execForm_ime {f : Form} {s : State} (hfull : s.config.irqImpl = .full) (hime : s.cpu.ime = true)
    (hsched : s.cpu.imeScheduled = false) (hdi : f ≠ .di) :
    (execForm f s).cpu.ime = true ∧ (execForm f s).cpu.imeScheduled = decide (f = .ei) := by
  by_cases hint : writesInterruptState f = false
  · have hkept := execForm_interrupts hint s
    have hei : f ≠ .ei := by rintro rfl; cases hint
    exact ⟨(congrArg Prod.fst hkept).trans hime,
      ((congrArg (·.2.1) hkept).trans hsched).trans (decide_eq_false hei).symm⟩
  cases f with
  | di => exact absurd rfl hdi
  | ei => rw [show execForm .ei s = _ from if_pos hfull]; exact ⟨hime, rfl⟩
  | halt => rw [show execForm .halt s = _ from if_pos hfull]; exact ⟨hime, hsched⟩
  | reti =>
    rw [show execForm .reti s = setIme true false (returnPop s) from if_pos hfull]
    exact ⟨rfl, rfl⟩
  | _ => exact absurd rfl hint

/-! ### The steps -/

theorem beforeFetch_full {s : State} (hfull : s.config.irqImpl = .full) :
    beforeFetch s =
      { s with cpu := { s.cpu with ime := s.cpu.ime || s.cpu.imeScheduled, imeScheduled := false, halted := false } } :=
  if_pos hfull

/-- The step of an awake CPU with interrupts off takes no interrupt. -/
theorem cpuStep_of_awake {s : State} (hime : s.cpu.ime = false) (hhalt : s.cpu.halted = false) {i : Instr} {rest : List Byte}
    (hdec : decode [readByte s s.cpu.pc, readByte s (s.cpu.pc + 1), readByte s (s.cpu.pc + 2)] = .ok (i, rest)) :
    cpuStep s = .next
      (execForm i.form (afterFetch (if i = .stop then 1 else (encode i).length) (beforeFetch s)),
        tableCount (readByte s s.cpu.pc) (readByte s (s.cpu.pc + 1)) s) := by
  refine cpuStep_of_decode (fun ⟨_, h, _⟩ => ?_) (fun ⟨_, h, _⟩ => ?_) hdec
  · rw [hhalt] at h; cases h
  · rw [hime] at h; cases h

/-- The step of EI: the enable is scheduled, one already scheduled takes effect. -/
theorem cpuStep_ei {s : State} (hfull : s.config.irqImpl = .full) (hime : s.cpu.ime = false) (hhalt : s.cpu.halted = false)
    (hop : readByte s s.cpu.pc = 0xFB) :
    ∃ t, cpuStep s = .next (t, 1) ∧ t.mmu = s.mmu ∧
      t.cpu = { s.cpu with pc := s.cpu.pc + 1, ime := s.cpu.imeScheduled, imeScheduled := true } := by
  have hstep := cpuStep_of_awake hime hhalt (i := .ei) (rest := [_, _]) (by rw [hop]; rfl)
  rw [hop] at hstep
  refine ⟨_, hstep, ?_⟩
  have hei : execForm .ei (afterFetch 1 (beforeFetch s)) =
      setIme (beforeFetch s).cpu.ime true (afterFetch 1 (beforeFetch s)) :=
    if_pos ((beforeFetch_sameConsole s).config ▸ hfull)
  show (execForm .ei (afterFetch 1 (beforeFetch s))).mmu = _ ∧ (execForm .ei (afterFetch 1 (beforeFetch s))).cpu = _
  rw [hei, beforeFetch_full hfull]
  exact ⟨rfl, by simp [setIme, afterFetch, hime, hhalt]⟩

/-- The step of DI: interrupts are off, and an enable that was scheduled is lost. -/
theorem cpuStep_di {s : State} (hfull : s.config.irqImpl = .full) (hime : s.cpu.ime = false) (hhalt : s.cpu.halted = false)
    (hop : readByte s s.cpu.pc = 0xF3) :
    ∃ t, cpuStep s = .next (t, 1) ∧ t.mmu = s.mmu ∧ t.cpu = { s.cpu with pc := s.cpu.pc + 1, imeScheduled := false } := by
  have hstep := cpuStep_of_awake hime hhalt (i := .di) (rest := [_, _]) (by rw [hop]; rfl)
  rw [hop] at hstep
  refine ⟨_, hstep, ?_⟩
  have hdi : execForm .di (afterFetch 1 (beforeFetch s)) = setIme false false (afterFetch 1 (beforeFetch s)) :=
    if_pos ((beforeFetch_sameConsole s).config ▸ hfull)
  show (execForm .di (afterFetch 1 (beforeFetch s))).mmu = _ ∧ (execForm .di (afterFetch 1 (beforeFetch s))).cpu = _
  rw [hdi, beforeFetch_full hfull]
  exact ⟨rfl, by simp [setIme, afterFetch, hime, hhalt]⟩

/-- With an enable scheduled, the step of any instruction but DI ends with interrupts on; only EI schedules another. -/
theorem cpuStep_of_scheduled {s : State} (hfull : s.config.irqImpl = .full) (hime : s.cpu.ime = false)
    (hsched : s.cpu.imeScheduled = true) (hhalt : s.cpu.halted = false) (hop : readByte s s.cpu.pc ≠ 0xF3) :
    ∃ t c, cpuStep s = .next (t, c) ∧ t.cpu.ime = true ∧ t.cpu.imeScheduled = (readByte s s.cpu.pc == 0xFB) := by
  obtain ⟨i, hdec, -⟩ := decodeTotal (readByte s s.cpu.pc) (readByte s (s.cpu.pc + 1)) (readByte s (s.cpu.pc + 2))
  have hfetch := beforeFetch_full hfull
  obtain ⟨ht, hsched'⟩ := execForm_ime (f := i.form)
    (s := afterFetch (if i = .stop then 1 else (encode i).length) (beforeFetch s))
    ((beforeFetch_sameConsole s).config ▸ hfull) (by rw [hfetch]; simp [afterFetch, hsched]) (by rw [hfetch]; rfl)
    fun hdi => hop (op_of_decode_di hdec hdi)
  have hei : i.form = .ei ↔ readByte s s.cpu.pc = 0xFB := by
    refine ⟨op_of_decode_ei hdec, fun h => ?_⟩
    rw [h] at hdec
    cases hdec
    rfl
  exact ⟨_, _, cpuStep_of_awake hime hhalt hdec, ht, hsched'.trans (decide_eq_decide.2 hei)⟩

/-- The step of a pending interrupt: PC goes to one of the five vectors, SP is two lower, interrupts are off. -/
theorem cpuStep_service {s : State} (h : willService s) :
    ∃ t n, cpuStep s = .next (t, 5) ∧ n < 5 ∧ t.cpu.pc = vector n ∧ t.cpu.sp = s.cpu.sp - 2 ∧ t.cpu.ime = false := by
  obtain ⟨hlt, -, -⟩ := lowestBit_spec (p := pending s) (by rw [pending_and]; exact h.2.2)
  refine ⟨_, lowestBit (pending s), cpuStep_of_willService h, hlt, ?_⟩
  rw [service, takeInterrupt_wake]
  exact ⟨rfl, rfl, rfl⟩

/-- Settles O56: the step of EI, then that of DI or of another instruction, then the interrupt. -/
theorem eiDelay : Obligations.EiDelay := by
  intro s hfull hime hsched hhalt hop
  obtain ⟨t, hstep, hmmu, hcpu⟩ := cpuStep_ei hfull hime hhalt hop
  obtain ⟨hconfig, hcart, hmask, -, -⟩ := cpuStep_sameConsole hstep
  rw [hsched] at hcpu
  have hfull' : t.config.irqImpl = .full := hconfig ▸ hfull
  have hnext : readByte t t.cpu.pc = readByte s (s.cpu.pc + 1) := by
    rw [hcpu]
    exact readByte_congr hmmu hcart hmask _
  refine ⟨t, hstep, by rw [hcpu, ← hime], hmmu, fun hdi => ?di, fun hdi => ?other⟩
  case di =>
    obtain ⟨u, hstep', hmmu', hcpu'⟩ := cpuStep_di hfull' (by rw [hcpu]) (by rw [hcpu]; exact hhalt) (hnext.trans hdi)
    refine ⟨u, hstep', ?_, hmmu'.trans hmmu⟩
    simp [hcpu', hcpu, hime, hsched, BitVec.add_assoc]
  case other =>
    obtain ⟨u, c, hstep', hime', hsched'⟩ :=
      cpuStep_of_scheduled hfull' (by rw [hcpu]) (by rw [hcpu]) (by rw [hcpu]; exact hhalt) (hnext ▸ hdi)
    refine ⟨u, c, hstep', hime', hnext ▸ hsched', fun hpending => ?_⟩
    exact cpuStep_service ⟨(cpuStep_sameConsole hstep').config ▸ hfull', hime', hpending⟩

end Sys2Proof.Machine
end
